-- ==== Sys2Proof/Word.lean ====
section
/-! DEFINITION. The word types of the protocol core (00_scope.md R6): bytes and 16-bit words, all unsigned. -/

namespace Sys2Proof

/-- One byte, bit 0 its least significant bit (00_scope.md R6). -/
abbrev Byte := BitVec 8

/-- A 16-bit word, the high byte in bits 15 to 8 (00_scope.md R6). -/
abbrev Word16 := BitVec 16

/-- The seven payload bytes of a request, `p[0]` first (30_encoding.md R60). -/
abbrev Payload := Vector Byte 7

/-- A request frame, ten bytes in transmission order (30_encoding.md R60). -/
abbrev ReqFrame := Vector Byte 10

/-- A reply frame, eight bytes in the order they are received (30_encoding.md R61). -/
abbrev RepFrame := Vector Byte 8

end Sys2Proof
end

