-- ==== Sys2Proof/Syntax.lean ====
section
/-! DEFINITION. The operations of the protocol core, one constructor per row of spec/opcode_table.json, the words
that select them (30_encoding.md R65, R66, R69), and the moves of the agents (00_scope.md R9). -/

namespace Sys2Proof

/-- One constructor per row of the operation and frame table (30_encoding.md R65). -/
inductive Instr where
  /-- Row REQ10: a request frame on the bus, all ten bytes (R60). -/
  | req10 (tid p0 p1 p2 p3 p4 p5 p6 crcLo crcHi : Byte)
  /-- Row REP8: a reply frame on the bus, all eight bytes (R61). -/
  | rep8 (q0 q1 q2 q3 q4 q5 crcLo crcHi : Byte)
  /-- Row CRC16: the checksum of `count` bytes from index `offset` (R80). -/
  | crc16 (bytes : List Byte) (offset count : Nat)
  /-- Row ENCODE: build a request frame (R100). -/
  | encode (tid p0 p1 p2 p3 p4 p5 p6 : Byte)
  /-- Row VALIDATE: judge eight bytes of a reply (R101). -/
  | validate (q0 q1 q2 q3 q4 q5 crcLo crcHi : Byte)
  /-- Row EXECUTE: the host starts a transaction with this payload (R131). -/
  | execute (p0 p1 p2 p3 p4 p5 p6 : Byte)
  /-- Row SETTID: the host writes the target identity (R133). -/
  | settid (v : Byte)
  /-- Row START, `PHASE = 0x0` with an EXECUTE from the host (R132). -/
  | start
  /-- Row DRAIN, `PHASE = 0x1` (R111, R112). -/
  | drain
  /-- Row SETTLE, `PHASE = 0x2` (R113). -/
  | settle
  /-- Row WRITE, `PHASE = 0x3` (R114). -/
  | write
  /-- Row FLUSH, `PHASE = 0x4` (R115, R116). -/
  | flush
  /-- Row ECHO, `PHASE = 0x5` (R117 to R120). -/
  | echo
  /-- Row READ, `PHASE = 0x6` (R140 to R142). -/
  | read
  /-- Row CHECK, `PHASE = 0x7` (R143). -/
  | check
  /-- Row RETRY, `PHASE = 0x8` (R144). -/
  | retry
  /-- Row DONE, `PHASE = 0x9` (R145). -/
  | done
  /-- Row (unused): a `PHASE` code from `0xA` to `0xF` (R67). -/
  | unused (code : BitVec 4)
  deriving DecidableEq, Repr

/-- The operations that no code selects: a caller names them and gives their operand bytes (R65, R69). The two
natural-number operands of `CRC16` have no width in the spec and stand beside the name. -/
inductive Selector where
  | req10
  | rep8
  | crc16 (offset count : Nat)
  | encode
  | validate
  | execute
  | settid
  deriving DecidableEq, Repr, Inhabited

/-- An operation written as in R69: its name, then its operands as bytes. -/
structure OpWord where
  sel : Selector
  bytes : List Byte
  deriving DecidableEq, Repr, Inhabited

/-- What selects an operation: the code in the register `PHASE`, or a name with operand bytes (R65). -/
inductive InstrWord where
  | phase (code : BitVec 4)
  | external (w : OpWord)
  deriving DecidableEq, Repr

/-- One move of one agent (00_scope.md R9); moves of all agents interleave in any order. -/
inductive Move where
  /-- The sequencer takes one step (R130). -/
  | turn
  /-- The bus appends these bytes to the tail of the receive queue (R46). -/
  | receive (bytes : List Byte)
  /-- The clock advances by a number of ticks, never backwards (R49). -/
  | advance (ticks : Nat)
  /-- The transmit path puts its oldest byte in flight on the bus (R25, R48). -/
  | transmit
  /-- The transmit path settles which bytes the next `TxWrite` will take (R47). -/
  | accept (mask : BitVec 10)
  /-- A named operation is issued: the host's `EXECUTE` or `SETTID`, a codec function, a frame on the bus (R65). -/
  | operation (w : OpWord)
  deriving DecidableEq, Repr, Inhabited

end Sys2Proof
end

