-- ==== Sys2Proof/Config.lean ====
section
/-! DEFINITION. The parameters of an instance (00_scope.md R5) and the free values: constants without a body, so that
no proof can know their value (93_implementation_defined.md U5, U8, U10). -/

namespace Sys2Proof.Config

/-- `CRC_MIX3`: the direction of the 3-bit shift in the low-accumulator update (40_crc.md R85). -/
inductive CrcMix3 where
  | shr3
  | shl3
  deriving DecidableEq, Repr

/-- The parameters of 00_scope.md R5 that a rule of the block reads. They are constants of an instance. -/
structure Params where
  crcMix3 : CrcMix3
  maxAttempts : Nat
  tSettle : Nat
  tEcho : Nat
  tReply : Nat
  clearByte : Byte
  deriving DecidableEq, Repr

/-- `T_SETTLE`, OPEN (92_eei_decisions.md D8): a number of ticks that no rule fixes. -/
opaque tSettle : Nat

/-- `T_REPLY`, OPEN (92_eei_decisions.md D10): a number of ticks that no rule fixes. -/
opaque tReply : Nat

/-- How many ticks 100 ms are: `TICK` is OPEN (92_eei_decisions.md D5), so the default of `T_ECHO` (D9) is free too. -/
opaque ticksIn100ms : Nat

/-- `TARGET_ID` between reset and the first `SETTID`: "any value, drawn once at reset" (93_implementation_defined.md U5). -/
opaque targetIdAtReset : Byte

/-- The move that some agent makes where the agenda of the state lists none: the `n`-th draw (00_scope.md R8, R9). -/
opaque drawMove : Nat → Move

/-- The parameters with the defaults of 00_scope.md R5, the OPEN ones free. -/
def defaults : Params where
  crcMix3 := .shr3
  maxAttempts := 3
  tSettle := tSettle
  tEcho := ticksIn100ms
  tReply := tReply
  clearByte := 0x00

end Sys2Proof.Config
end

