-- ==== Sys2Proof/Machine/Operands.lean ====
section
/-! DEFINITION. The pure functions of the Frame Codec: the checksum step by step (40_crc.md), the assembly of its word
(30_encoding.md R62, R63), the two frame operations (41_frame_codec.md), and the operand forms they take. -/

namespace Sys2Proof.Machine

open Sys2Proof.Config (CrcMix3)

/-- The two accumulator bytes `BccLo` and `BccHi` (10_state.md R12). -/
structure CrcAcc where
  lo : Byte
  hi : Byte
  deriving DecidableEq, Repr

/-- R81: both accumulators are seeded to `0xFF`. -/
def crcSeed : CrcAcc := ⟨0xFF, 0xFF⟩

/-- R82: the input byte mixed into the low accumulator, the value `N`. -/
def crcMixIn (b lo : Byte) : Byte := b ^^^ lo

/-- R83: the folded value `F`, the left shift within eight bits. -/
def crcFold (n : Byte) : Byte := n ^^^ (n <<< 4)

/-- R84: the next high accumulator, the right shift logical. -/
def crcHigh (f : Byte) : Byte := f ^^^ (f >>> 5)

/-- R85: the term `T3`, whose direction the parameter `CRC_MIX3` selects. -/
def crcT3 (mix : CrcMix3) (f : Byte) : Byte :=
  match mix with
  | .shr3 => f >>> 3
  | .shl3 => f <<< 3

/-- R85: the next low accumulator, from the OLD high accumulator. -/
def crcLow (mix : CrcMix3) (hiOld f : Byte) : Byte := hiOld ^^^ crcT3 mix f ^^^ (f >>> 4)

/-- One byte step, R82 to R86: both accumulators from their values at the start of the step. -/
def crcByte (mix : CrcMix3) (acc : CrcAcc) (b : Byte) : CrcAcc :=
  let f := crcFold (crcMixIn b acc.lo)
  ⟨crcLow mix acc.hi f, crcHigh f⟩

/-- R80, R81: the accumulators after the listed bytes, from the seed. -/
def crcRun (mix : CrcMix3) (bytes : List Byte) : CrcAcc := bytes.foldl (crcByte mix) crcSeed

/-- The word `{h, l}` of two bytes, the high one in bits 15 to 8 (00_scope.md R6). -/
def packWord (h l : Byte) : Word16 := (h.setWidth 16 <<< 8) ||| l.setWidth 16

/-- R87: the result word, the complements packed with the high accumulator in bits 15 to 8. -/
def crcWord (acc : CrcAcc) : Word16 := packWord (~~~acc.hi) (~~~acc.lo)

/-- R80: the covered bytes `bytes[offset]` to `bytes[offset + count - 1]`. -/
def crcCovered (bytes : List Byte) (offset count : Nat) : List Byte := (bytes.drop offset).take count

/-- R80: the checksum of the covered bytes. -/
def crc16 (mix : CrcMix3) (bytes : List Byte) (offset count : Nat) : Word16 :=
  crcWord (crcRun mix (crcCovered bytes offset count))

/-- R62: the checksum byte of the lower frame index. -/
def crcLoByte (c : Word16) : Byte := c.setWidth 8

/-- R62: the checksum byte of the higher frame index. -/
def crcHiByte (c : Word16) : Byte := (c >>> 8).setWidth 8

/-- R63: the 16-bit word formed from its two frame bytes, the later one high. -/
def receivedWord (lo hi : Byte) : Word16 := packWord hi lo

/-- The eight bytes a request's checksum covers: target identity and payload (R100). -/
def coveredRequest (tid : Byte) (p : Payload) : List Byte := tid :: p.toList

/-- R100: the request frame, checksum low byte before high byte. -/
def encodeFrame (mix : CrcMix3) (tid : Byte) (p : Payload) : ReqFrame :=
  let c := crc16 mix (coveredRequest tid p) 0 8
  #v[tid, p[0], p[1], p[2], p[3], p[4], p[5], p[6], crcLoByte c, crcHiByte c]

/-- R101: the received checksum equals the checksum of the first six bytes. -/
def validateFrame (mix : CrcMix3) (rep : RepFrame) : Bool :=
  receivedWord rep[6] rep[7] == crc16 mix rep.toList 0 6

/-- R64: the reply payload handed to the host, bytes 0 to 5. -/
def replyPayload (rep : RepFrame) : List Byte := rep.toList.take 6

/-- R47: the bytes of a written buffer that the transmit path takes, in index order: those whose bit of the mask is set.
Which subset it is, is the environment's choice (93_implementation_defined.md U6). -/
def takenBytes (mask : BitVec 10) : List Byte → Nat → List Byte
  | [], _ => []
  | b :: bs, i => if mask.getLsbD i then b :: takenBytes mask bs (i + 1) else takenBytes mask bs (i + 1)

/-! ### The byte step run backwards (R91 (d)) -/

/-- R83: the value `N` whose fold is `f`. -/
def crcUnfold (f : Byte) : Byte := f ^^^ (f <<< 4)

/-- R84: the folded value whose high accumulator is `h`. -/
def crcUnHigh (h : Byte) : Byte := h ^^^ (h >>> 5)

/-- R91 (d): the old high accumulator and the value `N` of a byte step, from the accumulators it left. -/
def crcUnstep (mix : CrcMix3) (acc : CrcAcc) : Byte × Byte :=
  let f := crcUnHigh acc.hi
  (acc.lo ^^^ crcT3 mix f ^^^ (f >>> 4), crcUnfold f)

/-- The two bytes whose checksum is the word `c` (R91 (d) applied twice, back to the seed of R81). -/
def crcPreimage (mix : CrcMix3) (c : Word16) : List Byte :=
  let second := crcUnstep mix ⟨~~~crcLoByte c, ~~~crcHiByte c⟩
  let f := crcUnHigh second.1
  let first := crcUnfold f ^^^ crcSeed.lo
  let loBetween := crcLow mix crcSeed.hi f
  [first, second.2 ^^^ loBetween]

end Sys2Proof.Machine
end

