-- ==== Sys2Proof/Machine/Phase.lean ====
section
/-! DEFINITION. The codes of the register `PHASE` (30_encoding.md R66) and the sets of phases the rules speak of. -/

namespace Sys2Proof.Machine.Phase

def idle : BitVec 4 := 0x0
def drain : BitVec 4 := 0x1
def settle : BitVec 4 := 0x2
def write : BitVec 4 := 0x3
def flush : BitVec 4 := 0x4
def echo : BitVec 4 := 0x5
def read : BitVec 4 := 0x6
def check : BitVec 4 := 0x7
def retry : BitVec 4 := 0x8
def done : BitVec 4 := 0x9

/-- `PHASE = IDLE`, or one of the codes `0xA` to `0xF`, which a bit-level model treats as `IDLE` (R67, D14). -/
def actsAsIdle (p : BitVec 4) : Bool := p == idle || decide (0xA ≤ p.toNat)

/-- The phases in which `DIR = TRANSMIT` (10_state.md R19). -/
def transmitting (p : BitVec 4) : Bool := p == settle || p == write || p == flush

/-- The phases of a running attempt before its echo phase is entered (42_direction_echo.md R110). -/
def beforeEcho (p : BitVec 4) : Bool := p == drain || transmitting p

/-- The phases of a running attempt before its reply is read (10_state.md R22). -/
def beforeRead (p : BitVec 4) : Bool := p == drain || p == settle || p == write || p == flush || p == echo

/-- The phases from the start of an attempt to the step that counts it as failed (10_state.md R14). -/
def inAttempt (p : BitVec 4) : Bool := beforeRead p || p == read || p == check || p == retry

end Sys2Proof.Machine.Phase
end

