-- ==== Sys2Proof/WellFormed.lean ====
section
/-! DEFINITION. Which terms of `Instr` are operations of the block: operand requirements the types do not carry. -/

namespace Sys2Proof

/-- `CRC16` requires `offset + count <= length(bytes)` (40_crc.md R80); the unused codes are `0xA` to `0xF`
(30_encoding.md R67); every other operand takes all its values (R67). -/
def Instr.wellFormed : Instr → Bool
  | .req10 _ _ _ _ _ _ _ _ _ _ => true
  | .rep8 _ _ _ _ _ _ _ _ => true
  | .crc16 bytes offset count => decide (offset + count ≤ bytes.length)
  | .encode _ _ _ _ _ _ _ _ => true
  | .validate _ _ _ _ _ _ _ _ => true
  | .execute _ _ _ _ _ _ _ => true
  | .settid _ => true
  | .start => true
  | .drain => true
  | .settle => true
  | .write => true
  | .flush => true
  | .echo => true
  | .read => true
  | .check => true
  | .retry => true
  | .done => true
  | .unused code => decide (0xA ≤ code.toNat)

/-- The well-formed operations as a proposition that `decide` settles. -/
abbrev Instr.WellFormed (i : Instr) : Prop := i.wellFormed = true

end Sys2Proof
end

