-- ==== Sys2Proof/Decode.lean ====
section
/-! DEFINITION. Decoding: from the `PHASE` code or from a named operation's bytes to an operation, total, rejecting by
name; the encoder beside it; and the table's words, numbered as spec/opcode_table.json numbers them. -/

namespace Sys2Proof

open Sys2Proof.Machine (crcPreimage encodeFrame validateFrame)

/-- Why a word is no operation. -/
inductive DecodeError where
  /-- The number of operand bytes is not the one the operation takes (R60, R61, R69). -/
  | operandLength
  /-- `CRC16` with `offset + count > length(bytes)` (40_crc.md R80). -/
  | crcRange
  deriving DecidableEq, Repr

/-- The micro-operation a `PHASE` code selects (30_encoding.md R66, R67; match and mask of the table). -/
def decodePhase (code : BitVec 4) : Instr :=
  match code.toNat with
  | 0x0 => .start
  | 0x1 => .drain
  | 0x2 => .settle
  | 0x3 => .write
  | 0x4 => .flush
  | 0x5 => .echo
  | 0x6 => .read
  | 0x7 => .check
  | 0x8 => .retry
  | 0x9 => .done
  | _ => .unused code

/-- A named operation from its operand bytes, in the order R69 writes them. -/
def decodeExternal (sel : Selector) (bytes : List Byte) : Except DecodeError Instr :=
  match sel with
  | .req10 =>
    match bytes with
    | [t, a, b, c, d, e, f, g, x, y] => .ok (.req10 t a b c d e f g x y)
    | _ => .error .operandLength
  | .rep8 =>
    match bytes with
    | [a, b, c, d, e, f, x, y] => .ok (.rep8 a b c d e f x y)
    | _ => .error .operandLength
  | .crc16 offset count =>
    if offset + count ≤ bytes.length then .ok (.crc16 bytes offset count) else .error .crcRange
  | .encode =>
    match bytes with
    | [t, a, b, c, d, e, f, g] => .ok (.encode t a b c d e f g)
    | _ => .error .operandLength
  | .validate =>
    match bytes with
    | [a, b, c, d, e, f, x, y] => .ok (.validate a b c d e f x y)
    | _ => .error .operandLength
  | .execute =>
    match bytes with
    | [a, b, c, d, e, f, g] => .ok (.execute a b c d e f g)
    | _ => .error .operandLength
  | .settid =>
    match bytes with
    | [v] => .ok (.settid v)
    | _ => .error .operandLength

/-- Decoding, total on every word. -/
def decode : InstrWord → Except DecodeError Instr
  | .phase code => .ok (decodePhase code)
  | .external w => decodeExternal w.sel w.bytes

/-- Whether a decoded word is one of the two host operations (R65). -/
def isHostOperation (w : OpWord) : Bool :=
  match decodeExternal w.sel w.bytes with
  | .ok (.execute _ _ _ _ _ _ _) => true
  | .ok (.settid _) => true
  | _ => false

/-! ### The encoder -/

/-- The word of an operation: its `PHASE` code (R66), or its name and operand bytes (R69). -/
def encode : Instr → InstrWord
  | .req10 t a b c d e f g x y => .external ⟨.req10, [t, a, b, c, d, e, f, g, x, y]⟩
  | .rep8 a b c d e f x y => .external ⟨.rep8, [a, b, c, d, e, f, x, y]⟩
  | .crc16 bytes offset count => .external ⟨.crc16 offset count, bytes⟩
  | .encode t a b c d e f g => .external ⟨.encode, [t, a, b, c, d, e, f, g]⟩
  | .validate a b c d e f x y => .external ⟨.validate, [a, b, c, d, e, f, x, y]⟩
  | .execute a b c d e f g => .external ⟨.execute, [a, b, c, d, e, f, g]⟩
  | .settid v => .external ⟨.settid, [v]⟩
  | .start => .phase 0x0
  | .drain => .phase 0x1
  | .settle => .phase 0x2
  | .write => .phase 0x3
  | .flush => .phase 0x4
  | .echo => .phase 0x5
  | .read => .phase 0x6
  | .check => .phase 0x7
  | .retry => .phase 0x8
  | .done => .phase 0x9
  | .unused code => .phase code

/-! ### The words of the operation table -/

/-- The `n` bytes of a table word in transmission order: byte 0 leftmost, that is in the highest bits (R60, R61). -/
def bytesOfWord : Nat → Nat → List Byte
  | 0, _ => []
  | n + 1, w => BitVec.ofNat 8 (w >>> (8 * n)) :: bytesOfWord n w

/-- Whether ten bytes are a result of `ENCODE`, under either value of `CRC_MIX3` (R100). -/
def isEncodeResult (bytes : List Byte) : Bool :=
  match bytes with
  | [t, a, b, c, d, e, f, g, _, _] =>
    (encodeFrame .shr3 t #v[a, b, c, d, e, f, g]).toList == bytes
      || (encodeFrame .shl3 t #v[a, b, c, d, e, f, g]).toList == bytes
  | _ => false

/-- Whether eight bytes are a valid reply, under either value of `CRC_MIX3` (R101). -/
def isValidReply (bytes : List Byte) : Bool :=
  match bytes with
  | [a, b, c, d, e, f, x, y] =>
    validateFrame .shr3 #v[a, b, c, d, e, f, x, y] || validateFrame .shl3 #v[a, b, c, d, e, f, x, y]
  | _ => false

/-- The word that stands for an instruction of the table, by the width of its row. Rows of one width share their
words (R65: only the `PHASE` rows have a selecting code); which row a word is read as, is in log 10. -/
def tableWord (nbits w : Nat) : Option InstrWord :=
  if nbits = 80 then
    let bytes := bytesOfWord 10 w
    if isEncodeResult bytes then some (.external ⟨.encode, bytes.take 8⟩) else some (.external ⟨.req10, bytes⟩)
  else if nbits = 64 then
    let bytes := bytesOfWord 8 w
    if isValidReply bytes then some (.external ⟨.rep8, bytes⟩) else some (.external ⟨.validate, bytes⟩)
  else if nbits = 56 then some (.external ⟨.execute, bytesOfWord 7 w⟩)
  else if nbits = 16 then some (.external ⟨.crc16 0 2, crcPreimage .shr3 (BitVec.ofNat 16 w)⟩)
  else if nbits = 8 then
    if w < 16 then some (.phase (BitVec.ofNat 4 w)) else some (.external ⟨.settid, bytesOfWord 1 w⟩)
  else if nbits = 4 then some (.phase (BitVec.ofNat 4 w))
  else none

/-- The instruction the decoder reads from a table word. -/
def decodeTableWord (nbits w : Nat) : Option Instr :=
  match tableWord nbits w with
  | some word =>
    match decode word with
    | .ok i => some i
    | .error _ => none
  | none => none

end Sys2Proof
end

