-- ==== Sys2Proof/Machine/State.lean ====
section
/-! DEFINITION. The state of the protocol core (10_state.md), the reasons a step can stop, and the reset state (R28). -/

namespace Sys2Proof.Machine

/-- The two logical values of the direction line (10_state.md R19). -/
inductive Direction where
  | receive
  | transmit
  deriving DecidableEq, Repr

/-- What a codec function returned when it was run as an operation of its own (R80, R100, R101). -/
inductive CodecOut where
  | nothing
  | word (c : Word16)
  | frame (f : ReqFrame)
  | verdict (ok : Bool)
  deriving DecidableEq, Repr

/-- The machine's state: the block's registers, the parameters of the instance, what the block observes of its
environment, and the model's own fields. Plain data throughout. -/
structure State where
  /-- `REQ[0..9]` (R10). -/
  req : ReqFrame
  /-- `REP[0..7]` (R11). -/
  rep : RepFrame
  /-- `BccLo` (R12). -/
  bccLo : Byte
  /-- `BccHi` (R12). -/
  bccHi : Byte
  /-- `PHASE`, four bits (R13). -/
  phase : BitVec 4
  /-- `ATTEMPT` (R14). -/
  attempt : Nat
  /-- `SENT` (R15). -/
  sent : Bool
  /-- `VALIDATED` (R16). -/
  validated : Bool
  /-- `BUSY` (R17). -/
  busy : Bool
  /-- `TARGET_ID` (R18). -/
  targetId : Byte
  /-- `DIR` (R19). -/
  dir : Direction
  /-- `SENT_COUNT` (R20). -/
  sentCount : Nat
  /-- `ECHO_COUNT` (R21). -/
  echoCount : Nat
  /-- `RCOUNT` (R22). -/
  rcount : Nat
  /-- `T0` (R23). -/
  t0 : Nat
  /-- The parameters of the instance (00_scope.md R5), which no step writes. -/
  params : Config.Params
  /-- The receive queue `RXQ`, oldest byte first (R24), outside the block. -/
  rxq : List Byte
  /-- The bytes the transmit path has accepted and not yet put on the bus (R25), outside the block. -/
  txInFlight : List Byte
  /-- `TxFlushed()` (R25, 20_memory.md R48), outside the block. -/
  txFlushed : Bool
  /-- Which bytes of a buffer the transmit path takes at the next `TxWrite` (20_memory.md R47), outside the block. -/
  txMask : BitVec 10
  /-- `now` (R26), outside the block. -/
  now : Nat
  /-- The EXECUTE port: the payload where the host is issuing `EXECUTE` at this step (43_sequencer.md R130). -/
  hostExec : Option Payload
  /-- Model's own: the result of the last codec function run as an operation (log 8). -/
  codecOut : CodecOut
  /-- Model's own: the pending moves of the agents, next first (log 2). -/
  agenda : List Move
  /-- Model's own: how many moves have been drawn (log 2). -/
  draws : Nat
  deriving DecidableEq, Repr

/-- The faults of the machine. The block has no fatal error (60_exceptions.md R166). -/
inductive Fault where
  /-- A `RxPop()` with no byte available has no result (93_implementation_defined.md U3). Raised by the operation
  `rxPop`; safe. No micro-operation performs it, since each pops only where a byte is available. -/
  | emptyPop
  deriving DecidableEq, Repr

/-- The reasons the model gives an operation no step. -/
inductive Refusal where
  /-- An instruction whose meaning is not written yet; raised by an arm of `exec`; safe. No arm is left. -/
  | notModelled (mnemonic : String)
  /-- An `EXECUTE` while a transaction runs (43_sequencer.md R131, U2): the host's duty is violated; raised by
  EXECUTE; safe. -/
  | executeWhileBusy
  /-- `CRC16` outside its operand requirement (40_crc.md R80); raised by CRC16; safe. -/
  | crcOperandRange
  /-- The issued word is no operation of the block; raised by the step's decoding; safe. -/
  | noSuchOperation (why : DecodeError)
  deriving DecidableEq, Repr

/-- The state right after reset (10_state.md R28). The fields R28 leaves unspecified or to the environment hold the
values of logs 4, 5 and 6; the parameters are the defaults of 00_scope.md R5. -/
def State.reset : State where
  req := Vector.replicate 10 0x00
  rep := Vector.replicate 8 Config.defaults.clearByte
  bccLo := 0xFF
  bccHi := 0xFF
  phase := Phase.idle
  attempt := 0
  sent := false
  validated := false
  busy := false
  targetId := Config.targetIdAtReset
  dir := .receive
  sentCount := 0
  echoCount := 0
  rcount := 0
  t0 := 0
  params := Config.defaults
  rxq := []
  txInFlight := []
  txFlushed := true
  txMask := 0x3FF
  now := 0
  hostExec := none
  codecOut := .nothing
  agenda := []
  draws := 0

end Sys2Proof.Machine
end

