-- ==== Sys2Proof/Machine/Flags.lean ====
section
/-! DEFINITION. The conditions the micro-operations test: timed conditions (60_exceptions.md R173), exits of the polling
loops (R119, R142), the outcome the host reads (R146), and the error classes a step names (R160). -/

namespace Sys2Proof.Machine

/-- R173: a timed condition with bound `bound` is true once `now - T0 >= bound`. -/
def State.expired (s : State) (bound : Nat) : Bool := decide (bound ≤ s.now - s.t0)

/-- R113: the settle delay is over. -/
def State.settleOver (s : State) : Bool := s.expired s.params.tSettle

/-- R119: the echo phase ends, by count or by window. -/
def State.echoOver (s : State) : Bool := decide (s.sentCount ≤ s.echoCount) || s.expired s.params.tEcho

/-- R142: the reply read ends, by a full buffer or by the deadline. -/
def State.readOver (s : State) : Bool := decide (s.rcount = 8) || s.expired s.params.tReply

/-- R21: "how many bytes the echo-cancellation loop of the current attempt has discarded": none before that loop is
entered, while the register `ECHO_COUNT` still keeps the count of an earlier attempt (R116; log 22). -/
def State.echoDiscarded (s : State) : Nat := if Phase.beforeEcho s.phase then 0 else s.echoCount

/-- R120: the full request frame was confirmed written. -/
def State.wroteFull (s : State) : Bool := decide (s.sentCount = 10)

/-- R143: eight bytes were collected and they validate. -/
def State.replyGood (s : State) : Bool := decide (s.rcount = 8) && validateFrame s.params.crcMix3 s.rep

/-- What the host reads of a finished transaction (R146). -/
structure HostOutcome where
  sent : Bool
  validated : Bool
  payload : Option (List Byte)
  deriving DecidableEq, Repr

/-- R146: the outcome, readable while `BUSY = 0`; the payload is present exactly when `VALIDATED = 1` (U1, R201).
DESIGN CHOICE (log 25): it is readable between reset and the first START too, where R146 does not speak; the flags are 0
there and no payload is present. -/
def State.outcome (s : State) : Option HostOutcome :=
  if s.busy then none
  else some ⟨s.sent, s.validated, if s.validated then some (replyPayload s.rep) else none⟩

/-- The five error classes with the value each would record (60_exceptions.md R160). Stored in no register. -/
inductive ErrorClass where
  /-- E1 write-short. -/
  | writeShort (sentCount : Nat)
  /-- E2 echo-overrun. -/
  | echoOverrun (echoCount : Nat)
  /-- E3 reply-timeout. -/
  | replyTimeout (rcount : Nat)
  /-- E4 reply-malformed. -/
  | replyMalformed
  /-- E5 attempts-exhausted. -/
  | attemptsExhausted
  deriving DecidableEq, Repr

/-- R160, R168: the error classes that the sequencer's step from this state names, in the order they are met. -/
def State.errorClasses (s : State) : List ErrorClass :=
  if s.phase = Phase.echo then
    if s.echoOver then
      (if s.echoCount < s.sentCount then [.echoOverrun s.echoCount] else [])
        ++ (if s.wroteFull then [] else [.writeShort s.sentCount])
    else []
  else if s.phase = Phase.check then
    if s.rcount = 8 then (if s.replyGood then [] else [.replyMalformed]) else [.replyTimeout s.rcount]
  else if s.phase = Phase.retry then
    if s.attempt + 1 < s.params.maxAttempts then [] else [.attemptsExhausted]
  else []

end Sys2Proof.Machine
end

