-- ==== Sys2Proof/Machine/Ops.lean ====
section
/-! DEFINITION. The named operations over the state: the byte paths (20_memory.md R44 to R49), the buffers (R55), the
checksum unit (R93), control transfer, the failure path and its return (60_exceptions.md R169, R170). -/

namespace Sys2Proof.Machine

/-! ### Control transfer and the failure path -/

/-- `PHASE <- p` (00_scope.md R8). -/
def State.goto (s : State) (p : BitVec 4) : State := { s with phase := p }

/-- `raise <Error>(info)` (00_scope.md R8, 60_exceptions.md R169): control goes to `RETRY`; nothing is saved, and the
class is stored nowhere (10_state.md R27). -/
def State.raise (s : State) (_class : ErrorClass) : State := s.goto Phase.retry

/-- The way back from `RETRY` (60_exceptions.md R170): a new attempt, or the end of the transaction. -/
def State.returnFromRetry (s : State) : State :=
  s.goto (if s.attempt < s.params.maxAttempts then Phase.drain else Phase.done)

/-! ### Registers -/

/-- `T0 <- now` (10_state.md R23). -/
def State.stampT0 (s : State) : State := { s with t0 := s.now }

/-- `DIR <- d` (10_state.md R19). -/
def State.setDir (s : State) (d : Direction) : State := { s with dir := d }

/-- `REP[0..7] <- CLEAR_BYTE` (20_memory.md R55, 92_eei_decisions.md D11). -/
def State.clearRep (s : State) : State := { s with rep := Vector.replicate 8 s.params.clearByte }

/-- `REP[RCOUNT] <- b; RCOUNT <- RCOUNT + 1` (20_memory.md R55). -/
def State.storeRep (s : State) (b : Byte) : State :=
  { s with rep := s.rep.setIfInBounds s.rcount b, rcount := s.rcount + 1 }

/-- One evaluation of the checksum unit over `bytes` (40_crc.md R93): the accumulators keep their final values. -/
def State.crcUnit (s : State) (bytes : List Byte) : State :=
  { s with bccLo := (crcRun s.params.crcMix3 bytes).lo, bccHi := (crcRun s.params.crcMix3 bytes).hi }

/-- The result output of the checksum unit (40_crc.md R87, R93). -/
def State.crcResult (s : State) : Word16 := crcWord ⟨s.bccLo, s.bccHi⟩

/-! ### The byte paths -/

/-- `RxAvail()` (20_memory.md R46). -/
def State.rxAvail (s : State) : Nat := s.rxq.length

/-- `RxPop()` (20_memory.md R46): the oldest byte and the state without it; stuck where none is available (U3). -/
def State.rxPop (s : State) : Except Fault (Byte × State) :=
  match s.rxq with
  | [] => .error .emptyPop
  | b :: rest => .ok (b, { s with rxq := rest })

/-- The bus appends bytes to the tail of the receive queue (20_memory.md R46). -/
def State.rxAppend (s : State) (bytes : List Byte) : State := { s with rxq := s.rxq ++ bytes }

/-- `TxWrite(REQ[0..9])` (20_memory.md R47, R48): the transmit path takes the bytes its mask names; nothing of them is
flushed yet. -/
def State.txWrite (s : State) : State :=
  { s with txInFlight := s.txInFlight ++ takenBytes s.txMask s.req.toList 0, txFlushed := false }

/-- The count that `TxWrite(REQ[0..9])` returns (20_memory.md R47). -/
def State.txCount (s : State) : Nat := (takenBytes s.txMask s.req.toList 0).length

/-- The transmit path puts its oldest byte on the bus; with the last one gone `TxFlushed()` becomes true and stays
true until the next `TxWrite` (20_memory.md R48). -/
def State.txShift (s : State) : State :=
  match s.txInFlight with
  | [] => { s with txFlushed := true }
  | _ :: rest => { s with txInFlight := rest, txFlushed := s.txFlushed || rest.isEmpty }

/-- The transmit path settles which bytes it will take at the next `TxWrite` (20_memory.md R47). -/
def State.setMask (s : State) (mask : BitVec 10) : State := { s with txMask := mask }

/-- The clock advances (20_memory.md R49). -/
def State.advance (s : State) (ticks : Nat) : State := { s with now := s.now + ticks }

/-! ### The acceptance of a command -/

/-- The acceptance of `EXECUTE(p)` (43_sequencer.md R132): flags and reply storage cleared, the request frame built,
the first attempt or, with no attempt allowed, the end selected. DESIGN CHOICE (log 14): the EXECUTE port is cleared,
also where `p` comes from a move of the host while another EXECUTE stands on the port; R131 and R200 do not speak of two
EXECUTEs at once. -/
def State.acceptExecute (s : State) (p : Payload) : State :=
  let cleared := { s with sent := false, validated := false, rcount := 0, attempt := 0, hostExec := none }.clearRep
  let framed := { cleared with req := encodeFrame s.params.crcMix3 s.targetId p }.crcUnit (coveredRequest s.targetId p)
  { framed with busy := true }.goto (if 0 < s.params.maxAttempts then Phase.drain else Phase.done)

end Sys2Proof.Machine
end

