-- ==== Sys2Proof/Machine/Codec.lean ====
section
/-! DEFINITION. The codec functions run as operations of their own (40_crc.md, 41_frame_codec.md), and the two frame
formats as frames on the bus (30_encoding.md R60, R61). -/

namespace Sys2Proof.Machine

/-- CRC16 (R80 to R89): the accumulators are left at their final values and the result is presented. Outside the
operand requirement of R80 the function is not defined. -/
def execCrc16 (bytes : List Byte) (offset count : Nat) (s : State) : Host.Outcome State Fault Refusal :=
  if offset + count ≤ bytes.length then
    .next { s.crcUnit (crcCovered bytes offset count) with
      codecOut := .word (crc16 s.params.crcMix3 bytes offset count) }
  else .refused .crcOperandRange

/-- ENCODE (R100): the ten-byte request frame is presented. -/
def execEncode (tid p0 p1 p2 p3 p4 p5 p6 : Byte) (s : State) : Host.Outcome State Fault Refusal :=
  let p : Payload := #v[p0, p1, p2, p3, p4, p5, p6]
  .next { s.crcUnit (coveredRequest tid p) with codecOut := .frame (encodeFrame s.params.crcMix3 tid p) }

/-- VALIDATE (R101): the verdict on eight bytes is presented. -/
def execValidate (q0 q1 q2 q3 q4 q5 lo hi : Byte) (s : State) : Host.Outcome State Fault Refusal :=
  .next { s.crcUnit [q0, q1, q2, q3, q4, q5] with
    codecOut := .verdict (validateFrame s.params.crcMix3 #v[q0, q1, q2, q3, q4, q5, lo, hi]) }

/-- REQ10 (R60): a request frame on the bus as the local receiver gets it, byte 0 first; a move of the bus (R46, log 9). -/
def execReq10 (tid p0 p1 p2 p3 p4 p5 p6 lo hi : Byte) (s : State) : Host.Outcome State Fault Refusal :=
  .next (s.rxAppend [tid, p0, p1, p2, p3, p4, p5, p6, lo, hi])

/-- REP8 (R61): a reply frame on the bus as the local receiver gets it, byte 0 first; a move of the bus (R46, log 9). -/
def execRep8 (q0 q1 q2 q3 q4 q5 lo hi : Byte) (s : State) : Host.Outcome State Fault Refusal :=
  .next (s.rxAppend [q0, q1, q2, q3, q4, q5, lo, hi])

end Sys2Proof.Machine
end

