-- ==== Sys2Proof/Machine/Direction.lean ====
section
/-! DEFINITION. The direction controller and echo-suppression FSM (42_direction_echo.md R110 to R120). -/

namespace Sys2Proof.Machine

/-- DRAIN (R111, R112): discard one byte, or with an empty queue switch to transmit. -/
def execDrain (s : State) : Host.Outcome State Fault Refusal :=
  .next <|
    match s.rxPop with
    | .ok (_, popped) => popped
    | .error _ => ((s.setDir .transmit).stampT0).goto Phase.settle

/-- SETTLE (R113): hold until the settle delay is over. -/
def execSettle (s : State) : Host.Outcome State Fault Refusal :=
  .next <| if s.settleOver then s.goto Phase.write else s

/-- WRITE (R114): one `TxWrite` of the whole request frame. -/
def execWrite (s : State) : Host.Outcome State Fault Refusal :=
  .next <| { s.txWrite with sentCount := s.txCount }.goto Phase.flush

/-- FLUSH (R115, R116): wait for the transmitter, then switch to receive in the same step that saw it done. -/
def execFlush (s : State) : Host.Outcome State Fault Refusal :=
  .next <| if s.txFlushed then { (s.setDir .receive).stampT0 with echoCount := 0 }.goto Phase.echo else s

/-- ECHO (R117 to R120): leave by count or by window, else discard one byte, else wait. -/
def execEcho (s : State) : Host.Outcome State Fault Refusal :=
  .next <|
    if s.echoOver then
      if s.wroteFull then { s.stampT0 with sent := true, rcount := 0 }.goto Phase.read
      else s.raise (.writeShort s.sentCount)
    else
      match s.rxPop with
      | .ok (_, popped) => { popped with echoCount := s.echoCount + 1 }
      | .error _ => s

end Sys2Proof.Machine
end

