-- ==== Sys2Proof/Machine/HostOps.lean ====
section
/-! DEFINITION. The two host operations (43_sequencer.md R131, R133). -/

namespace Sys2Proof.Machine

/-- EXECUTE (R131): accepted at `PHASE = IDLE`, where its acceptance is START; refused at any other phase. -/
def execExecute (p0 p1 p2 p3 p4 p5 p6 : Byte) (s : State) : Host.Outcome State Fault Refusal :=
  if Phase.actsAsIdle s.phase then .next (s.acceptExecute #v[p0, p1, p2, p3, p4, p5, p6])
  else .refused .executeWhileBusy

/-- SETTID (R133): accepted in every phase; writes `TARGET_ID` and nothing else. -/
def execSettid (v : Byte) (s : State) : Host.Outcome State Fault Refusal :=
  .next { s with targetId := v }

end Sys2Proof.Machine
end

