-- ==== Sys2Proof/Machine/Sequencer.lean ====
section
/-! DEFINITION. The timeout and retry sequencer (43_sequencer.md R130 to R145). -/

namespace Sys2Proof.Machine

/-- START (R132), selected by `PHASE = IDLE` together with an EXECUTE from the host; with no EXECUTE, `IDLE` selects
no operation (R130). -/
def execStart (s : State) : Host.Outcome State Fault Refusal :=
  .next <|
    match s.hostExec with
    | some p => s.acceptExecute p
    | none => s

/-- READ (R140 to R142): leave by a full buffer or by the deadline, else store one byte, else wait. -/
def execRead (s : State) : Host.Outcome State Fault Refusal :=
  .next <|
    if s.readOver then s.goto Phase.check
    else
      match s.rxPop with
      | .ok (b, popped) => popped.storeRep b
      | .error _ => s

/-- CHECK (R143): length first, then checksum. -/
def execCheck (s : State) : Host.Outcome State Fault Refusal :=
  .next <|
    if s.rcount = 8 then
      let checked := s.crcUnit (s.rep.toList.take 6)
      if validateFrame s.params.crcMix3 s.rep then { checked with validated := true }.goto Phase.done
      else checked.raise .replyMalformed
    else s.raise (.replyTimeout s.rcount)

/-- RETRY (R144): count the failure, clear the reply buffer, go on to the next attempt or to the end. -/
def execRetry (s : State) : Host.Outcome State Fault Refusal :=
  .next <| { s.clearRep with attempt := s.attempt + 1, rcount := 0 }.returnFromRetry

/-- DONE (R145): without a valid reply clear the reply buffer; the transaction is over. -/
def execDone (s : State) : Host.Outcome State Fault Refusal :=
  .next <| { (if s.validated then s else s.clearRep) with busy := false }.goto Phase.idle

/-- A `PHASE` code from `0xA` to `0xF` (R67): no operation of its own; treated as `IDLE` (U4), so an EXECUTE from the
host is accepted and otherwise nothing happens. -/
def execUnused (s : State) : Host.Outcome State Fault Refusal :=
  .next <|
    match s.hostExec with
    | some p => s.acceptExecute p
    | none => s

end Sys2Proof.Machine
end

