-- ==== Sys2Proof/Machine/Dispatch.lean ====
section
/-! DEFINITION. The dispatch: one arm per constructor of `Instr`. -/

namespace Sys2Proof.Machine

def exec (i : Instr) (s : State) : Host.Outcome State Fault Refusal :=
  match i with
  | .req10 tid p0 p1 p2 p3 p4 p5 p6 lo hi => Sys2Proof.Machine.execReq10 tid p0 p1 p2 p3 p4 p5 p6 lo hi s
  | .rep8 q0 q1 q2 q3 q4 q5 lo hi => Sys2Proof.Machine.execRep8 q0 q1 q2 q3 q4 q5 lo hi s
  | .crc16 bytes offset count => Sys2Proof.Machine.execCrc16 bytes offset count s
  | .encode tid p0 p1 p2 p3 p4 p5 p6 => Sys2Proof.Machine.execEncode tid p0 p1 p2 p3 p4 p5 p6 s
  | .validate q0 q1 q2 q3 q4 q5 lo hi => Sys2Proof.Machine.execValidate q0 q1 q2 q3 q4 q5 lo hi s
  | .execute p0 p1 p2 p3 p4 p5 p6 => Sys2Proof.Machine.execExecute p0 p1 p2 p3 p4 p5 p6 s
  | .settid v => Sys2Proof.Machine.execSettid v s
  | .start => Sys2Proof.Machine.execStart s
  | .drain => Sys2Proof.Machine.execDrain s
  | .settle => Sys2Proof.Machine.execSettle s
  | .write => Sys2Proof.Machine.execWrite s
  | .flush => Sys2Proof.Machine.execFlush s
  | .echo => Sys2Proof.Machine.execEcho s
  | .read => Sys2Proof.Machine.execRead s
  | .check => Sys2Proof.Machine.execCheck s
  | .retry => Sys2Proof.Machine.execRetry s
  | .done => Sys2Proof.Machine.execDone s
  | .unused _ => Sys2Proof.Machine.execUnused s

end Sys2Proof.Machine
end

