-- ==== Sys2Proof/Machine/Fetch.lean ====
section
/-! DEFINITION. Which agent moves next, what the step fetches, and where an instruction is placed to be fetched next. -/

namespace Sys2Proof.Machine

/-- A drawn move: any move of any agent, a named operation only where it is one of the host's two (00_scope.md R9). -/
def drawnMove (n : Nat) : Move :=
  match Config.drawMove n with
  | .operation w => if isHostOperation w then .operation w else .turn
  | m => m

/-- The move the step makes: the next one of the agenda, or a drawn one where none is listed. -/
def State.nextMove (s : State) : Move :=
  match s.agenda with
  | [] => drawnMove s.draws
  | m :: _ => m

/-- The state with that move taken off. -/
def State.takeMove (s : State) : State :=
  match s.agenda with
  | [] => { s with draws := s.draws + 1 }
  | _ :: rest => { s with agenda := rest }

/-- What selects the operation at the sequencer's turn: the code in `PHASE`; but an EXECUTE that the host issues while
`PHASE` is not `IDLE` is itself what is met, and is refused (43_sequencer.md R130, R131). -/
def State.fetchTurn (s : State) : InstrWord :=
  match s.hostExec with
  | some p => if Phase.actsAsIdle s.phase then .phase s.phase else .external ⟨.execute, p.toList⟩
  | none => .phase s.phase

/-- The word the step fetches, where its move is a sequencer turn or a named operation. -/
def State.fetch (s : State) : Option InstrWord :=
  match s.nextMove with
  | .turn => some s.fetchTurn
  | .operation w => some (.external w)
  | _ => none

/-- A move of the bus, the clock or the transmit path (00_scope.md R9); the two moves that fetch leave the state. -/
def environmentMove (m : Move) (s : State) : State :=
  match m with
  | .turn => s
  | .receive bytes => s.rxAppend bytes
  | .advance ticks => s.advance ticks
  | .transmit => s.txShift
  | .accept mask => s.setMask mask
  | .operation _ => s

/-- Place a word so that the next step fetches it: a `PHASE` code in `PHASE` with a sequencer turn listed next, for
`START` with an EXECUTE on the host's port; a named operation listed as the next move. -/
def State.placeWord (s : State) (w : InstrWord) : State :=
  match w with
  | .phase code =>
    { s with
      phase := code
      hostExec := if code = Phase.idle then some (s.hostExec.getD (Vector.replicate 7 0x00)) else none
      agenda := .turn :: s.agenda }
  | .external w => { s with agenda := .operation w :: s.agenda }

end Sys2Proof.Machine
end

