-- ==== Sys2Proof/Machine/Step.lean ====
section
/-! DEFINITION. One step of the machine: one move of one agent (00_scope.md R9), and the placing of an instruction. -/

namespace Sys2Proof.Machine

/-- One step: a move of the bus, the clock or the transmit path changes what the block observes; a sequencer turn or a
named operation is fetched, decoded and executed (43_sequencer.md R130). -/
def step (s : State) : Host.Outcome State Fault Refusal :=
  match s.fetch with
  | some w =>
    match decode w with
    | .ok i => exec i s.takeMove
    | .error why => .refused (.noSuchOperation why)
  | none => .next (environmentMove s.nextMove s.takeMove)

/-- The state in which the next step fetches and runs the instruction of this table word. -/
def State.withFetchWord (s : State) (nbits w : Nat) : State :=
  match tableWord nbits w with
  | some word => s.placeWord word
  | none => s

end Sys2Proof.Machine
end

