-- ==== Sys2Proof/Safety.lean ====
section
/-! DEFINITION. What the claims speak of: the invariants of a legal state (43_sequencer.md R147 and the rules it rests
on), the successors of each phase (R130), runs and what happened along them, and the reference checksum of R92. -/

namespace Sys2Proof.Safety

open Sys2Proof.Machine

/-- Every byte of `REP` is `CLEAR_BYTE` (10_state.md R11). -/
def RepClear (s : State) : Prop := ∀ k (h : k < 8), s.rep[k] = s.params.clearByte

/-- `REP[RCOUNT..7]` are all `CLEAR_BYTE` (43_sequencer.md R147 (d)). -/
def RepTailClear (s : State) : Prop := ∀ k (h : k < 8), s.rcount ≤ k → s.rep[k] = s.params.clearByte

/-- What holds in every state of a run from reset. -/
structure Inv (s : State) : Prop where
  /-- `PHASE` holds one of the ten codes (10_state.md R13). -/
  legalPhase : s.phase.toNat ≤ 9
  /-- `BUSY = 1` exactly when `PHASE != IDLE` (10_state.md R17, R147 (b)). -/
  busyIff : s.busy = true ↔ s.phase ≠ Phase.idle
  /-- `DIR = TRANSMIT` exactly in SETTLE, WRITE and FLUSH (10_state.md R19, R147 (f)). -/
  dirIff : s.dir = .transmit ↔ Phase.transmitting s.phase = true
  /-- `VALIDATED = 1` implies `SENT = 1` (10_state.md R16, R147 (a)). -/
  validatedSent : s.validated = true → s.sent = true
  /-- `VALIDATED` is 0 while an attempt runs (R132, R143). -/
  unvalidated : Phase.inAttempt s.phase = true → s.validated = false
  /-- A validated reply is held whole in `REP` (R143, R146). -/
  validReply : s.validated = true → s.rcount = 8 ∧ validateFrame s.params.crcMix3 s.rep = true
  /-- `0 <= RCOUNT <= 8` (R147 (c)). -/
  rcountLe : s.rcount ≤ 8
  /-- `SENT_COUNT <= 10` (R147 (c)). -/
  sentCountLe : s.sentCount ≤ 10
  /-- `ECHO_COUNT <= 10` (10_state.md R21). -/
  echoCountLe : s.echoCount ≤ 10
  /-- `ECHO_COUNT <= SENT_COUNT` (R147 (c)) in every phase but FLUSH, where `SENT_COUNT` is of the running attempt and
  `ECHO_COUNT` still of an earlier one (42_direction_echo.md R114, R116; log 22). -/
  echoLeSent : s.phase ≠ Phase.flush → s.echoCount ≤ s.sentCount
  /-- `REP[RCOUNT..7]` are `CLEAR_BYTE` from DRAIN to READ (R147 (d)). -/
  tailClear : Phase.beforeRead s.phase = true ∨ s.phase = Phase.read → RepTailClear s
  /-- Nothing is stored before the reply is read (10_state.md R22). -/
  nothingRead : Phase.beforeRead s.phase = true → s.rcount = 0
  /-- The reply is read only after a full frame was written (42_direction_echo.md R120). -/
  fullFrameSent : s.phase = Phase.read ∨ s.phase = Phase.check → s.sent = true ∧ s.sentCount = 10
  /-- CHECK is reached by a full buffer or by the deadline (R142). -/
  readEnded : s.phase = Phase.check → s.rcount = 8 ∨ s.params.tReply ≤ s.now - s.t0
  /-- An attempt runs only within the budget (10_state.md R14). -/
  attemptRuns : Phase.inAttempt s.phase = true → s.attempt < s.params.maxAttempts
  /-- `ATTEMPT <= MAX_ATTEMPTS` always (43_sequencer.md R150). -/
  attemptLe : s.attempt ≤ s.params.maxAttempts
  /-- Data is driven only after the settle delay (20_memory.md R52 (b)). -/
  settled : s.phase = Phase.write → s.params.tSettle ≤ s.now - s.t0
  /-- The stored time is not ahead of the clock (60_exceptions.md R173). -/
  stampLe : s.t0 ≤ s.now
  /-- Without a valid reply the reply storage is clear at DONE and after (43_sequencer.md R145). -/
  failedClear : s.phase = Phase.done ∨ s.phase = Phase.idle → s.validated = false → RepClear s
  /-- What the echo loop of the current attempt has discarded (10_state.md R21) is at most `SENT_COUNT`, in every phase.
  R147 (c) speaks of the register, which in FLUSH may exceed `SENT_COUNT` (log 22). -/
  echoDiscardedLe : s.echoDiscarded ≤ s.sentCount

/-- The phases that may follow each phase in one step of the sequencer (43_sequencer.md R130). -/
def successors (p : BitVec 4) : List (BitVec 4) :=
  match p.toNat with
  | 0x0 => [Phase.idle, Phase.drain, Phase.done]
  | 0x1 => [Phase.drain, Phase.settle]
  | 0x2 => [Phase.settle, Phase.write]
  | 0x3 => [Phase.flush]
  | 0x4 => [Phase.flush, Phase.echo]
  | 0x5 => [Phase.echo, Phase.read, Phase.retry]
  | 0x6 => [Phase.read, Phase.check]
  | 0x7 => [Phase.done, Phase.retry]
  | 0x8 => [Phase.drain, Phase.done]
  | 0x9 => [Phase.idle]
  | _ => [p, Phase.drain, Phase.done]

/-- The error classes that end their attempt: E1, E3 and E4 (60_exceptions.md R168, R169). -/
def endsAttempt : ErrorClass → Bool
  | .writeShort _ => true
  | .echoOverrun _ => false
  | .replyTimeout _ => true
  | .replyMalformed => true
  | .attemptsExhausted => false

/-! ### Runs -/

/-- The state after `n` steps, where none of them stops. -/
def run : Nat → State → Option State
  | 0, s => some s
  | n + 1, s =>
    match step s with
    | .next t => run n t
    | .fault _ => none
    | .refused _ => none

/-- `P` holds of the first state and of each state that `n` steps lead through. -/
def AllAlong (P : State → Prop) : Nat → State → Prop
  | 0, s => P s
  | n + 1, s => P s ∧ ∃ t, step s = .next t ∧ AllAlong P n t

/-- How many calls of `TxWrite` the first `n` steps make: one at each WRITE (42_direction_echo.md R114). -/
def txWrites : Nat → State → Nat
  | 0, _ => 0
  | n + 1, s =>
    (if s.fetch = some (.phase Phase.write) then 1 else 0)
      + (match step s with
        | .next t => txWrites n t
        | .fault _ => 0
        | .refused _ => 0)

/-- The bytes that READ pops in the first `n` steps, in order (43_sequencer.md R140). -/
def readBytes : Nat → State → List Byte
  | 0, _ => []
  | n + 1, s =>
    (if s.fetch = some (.phase Phase.read) ∧ s.readOver = false then s.rxq.head?.toList else [])
      ++ (match step s with
        | .next t => readBytes n t
        | .fault _ => []
        | .refused _ => [])

/-! ### The reference checksum of R92 -/

/-- One bit of the reflected division by the polynomial `0x8408` (40_crc.md R92). -/
def x25Bit (r : Word16) : Word16 := if r.getLsbD 0 then (r >>> 1) ^^^ 0x8408 else r >>> 1

/-- `n` bits of it. -/
def x25Bits : Nat → Word16 → Word16
  | 0, r => r
  | n + 1, r => x25Bits n (x25Bit r)

/-- One byte of it: the byte enters the low eight bits, then eight bits are divided. -/
def x25Byte (r : Word16) (b : Byte) : Word16 := x25Bits 8 (r ^^^ b.setWidth 16)

/-- CRC-16/X-25: initial value `0xFFFF`, final exclusive-or `0xFFFF` (40_crc.md R92). -/
def x25 (bytes : List Byte) : Word16 := bytes.foldl x25Byte 0xFFFF ^^^ 0xFFFF

end Sys2Proof.Safety
end

