-- ==== Sys2Proof/Certificates/Slice0/Obligations.lean ====
section
/-! DEFINITION. The statements for the provers. "log <n>" is notes/assumptions/<n>.md; a statement marked as the model's
choice rests on a decision of 92_eei_decisions.md or on a log entry, which its docstring names. -/

open Sys2Proof Sys2Proof.Machine Sys2Proof.Safety
open Sys2Proof.Config (CrcMix3)

/-! ### The step -/

/-- The model's choice (logs 2, 11): where the step fetches a word that decodes to `i`, it executes `i` on the state with
the move taken off, and nothing else; an issued operation is fetched from its move. -/
def Obligations.StepRunsTheDecodedInstruction : Prop :=
  (∀ (s : State) (w : InstrWord) (i : Instr), s.fetch = some w → decode w = .ok i → step s = exec i s.takeMove) ∧
  (∀ (s : State) (w : OpWord) (i : Instr) (rest : List Move), s.agenda = .operation w :: rest →
    decode (.external w) = .ok i → step s = exec i { s with agenda := rest })

/-- The model's choice (logs 2, 14) of how R130 and R131 are met: at a sequencer turn the code in `PHASE` is what runs;
an EXECUTE presented at the port while a transaction runs is refused. -/
def Obligations.SequencerTurnRunsThePhaseCode : Prop :=
  ∀ (s : State) (rest : List Move), s.agenda = .turn :: rest →
    (s.hostExec = none → step s = exec (decodePhase s.phase) { s with agenda := rest }) ∧
    (s.phase = Phase.idle → step s = exec .start { s with agenda := rest }) ∧
    (∀ p, s.hostExec = some p → s.phase ≠ Phase.idle → s.phase.toNat ≤ 9 → step s = .refused .executeWhileBusy)

/-- The moves of the bus, the clock and the transmit path change only what the block observes (R46, R48, R49 with
decisions D5, D21, D37; logs 2, 12, 13). -/
def Obligations.EnvironmentMovesTouchNoRegister : Prop :=
  ∀ (s : State) (rest : List Move),
    (∀ bytes, s.agenda = .receive bytes :: rest →
      step s = .next { s with agenda := rest, rxq := s.rxq ++ bytes }) ∧
    (∀ ticks, s.agenda = .advance ticks :: rest →
      step s = .next { s with agenda := rest, now := s.now + ticks }) ∧
    (∀ mask, s.agenda = .accept mask :: rest →
      step s = .next { s with agenda := rest, txMask := mask }) ∧
    (∀ b bs, s.agenda = .transmit :: rest → s.txInFlight = b :: bs → s.txFlushed = false →
      step s = .next { s with agenda := rest, txInFlight := bs, txFlushed := bs.isEmpty }) ∧
    (s.agenda = .transmit :: rest → s.txInFlight = [] →
      step s = .next { s with agenda := rest, txFlushed := true })

/-- No step answers a fault: R166, "There is no concept of a fatal error inside this core". Two choices of the model
stand behind it: a START that reads `TARGET_ID` before any SETTID, which R28, R196 and decision D19 would have a model
fault, runs with a free value (log 4), and the one fault the model has, a pop of an empty queue, is met by no step
(log 15). -/
def Obligations.StepNeverFaults : Prop :=
  ∀ (s : State) (f : Fault), step s ≠ .fault f

/-- The only refusals: an EXECUTE met in one of the nine phases from DRAIN to DONE (R131, decision D12; that an EXECUTE on
the port is met at a sequencer turn is log 14), and an issued word that is no operation, among them a CRC16 outside
R80's requirement (log 16). -/
def Obligations.RefusalsAreTheCallersFault : Prop :=
  ∀ (s : State) (r : Refusal), step s = .refused r →
    (r = .executeWhileBusy ∧ 1 ≤ s.phase.toNat ∧ s.phase.toNat ≤ 9 ∧
      ∃ a b c d e f g, s.fetch = some (.external ⟨.execute, [a, b, c, d, e, f, g]⟩)) ∨
    (∃ why w, r = .noSuchOperation why ∧ s.fetch = some (.external w) ∧ decode (.external w) = .error why)

/-- Every turn of the sequencer completes in a next state, whatever the registers and the environment hold, with an
EXECUTE on the port where `PHASE` is `IDLE` or an unused code and with none in every phase (R130, R67; the port is the
model's choice, log 14). That a START before any SETTID completes too is the model's choice (log 4): R28, R196 and
decision D19 would have a model fault it. -/
def Obligations.EverySequencerTurnCompletes : Prop :=
  ∀ (s : State) (rest : List Move), s.agenda = .turn :: rest →
    s.hostExec = none ∨ s.phase = Phase.idle ∨ 0xA ≤ s.phase.toNat → ∃ t, step s = .next t

/-! ### Encoding -/

/-- The codes of `PHASE` (R66, R67; decision D14) select the micro-operations of R130. -/
def Obligations.PhaseCodesSelectTheMicroOperations : Prop :=
  (decode (.phase 0x0) = .ok .start ∧ decode (.phase 0x1) = .ok .drain ∧ decode (.phase 0x2) = .ok .settle ∧
    decode (.phase 0x3) = .ok .write ∧ decode (.phase 0x4) = .ok .flush ∧ decode (.phase 0x5) = .ok .echo ∧
    decode (.phase 0x6) = .ok .read ∧ decode (.phase 0x7) = .ok .check ∧ decode (.phase 0x8) = .ok .retry ∧
    decode (.phase 0x9) = .ok .done) ∧
  ∀ code : BitVec 4, 0xA ≤ code.toNat → decode (.phase code) = .ok (.unused code)

/-- Words of the table, written out from the spec's layouts and vectors (V3.3, V3.7, S1), decode to their operations;
which row a shared word is read as is the model's choice (log 10). -/
def Obligations.TableWordsDecode : Prop :=
  decodeTableWord 80 0x023200000000000001DB = some (.encode 0x02 0x32 0x00 0x00 0x00 0x00 0x00 0x00) ∧
  decodeTableWord 80 0x02320000000000000000 =
    some (.req10 0x02 0x32 0x00 0x00 0x00 0x00 0x00 0x00 0x00 0x00) ∧
  decodeTableWord 64 0x00060000000031EA = some (.rep8 0x00 0x06 0x00 0x00 0x00 0x00 0x31 0xEA) ∧
  decodeTableWord 64 0x00070000000031EA = some (.validate 0x00 0x07 0x00 0x00 0x00 0x00 0x31 0xEA) ∧
  decodeTableWord 56 0x32000000000000 = some (.execute 0x32 0x00 0x00 0x00 0x00 0x00 0x00) ∧
  decodeTableWord 8 0x05 = some .echo ∧ decodeTableWord 8 0x0C = some (.unused 0xC) ∧
  decodeTableWord 8 0x43 = some (.settid 0x43)

/-- Decoding and encoding are inverse to each other, for every operation and every word: no operand bit is dropped and
no word has two readings. -/
def Obligations.DecodeAndEncodeAreInverse : Prop :=
  ∀ (w : InstrWord) (i : Instr), decode w = .ok i ↔ i.WellFormed ∧ encode i = w

/-! ### The checksum -/

/-- R81: both accumulators start at `0xFF` in every evaluation, and nothing carries over from an earlier one: each
operation that evaluates the checksum does the same whatever the accumulators held. -/
def Obligations.ChecksumSeedsAreFixed : Prop :=
  (∀ mix : CrcMix3, crcRun mix [] = ⟨0xFF, 0xFF⟩) ∧
  ∀ (s : State) (lo hi : Byte),
    let other : State := { s with bccLo := lo, bccHi := hi }
    (∀ (bytes : List Byte) (offset count : Nat),
      exec (.crc16 bytes offset count) other = exec (.crc16 bytes offset count) s) ∧
    (∀ t a b c d e f g : Byte, exec (.encode t a b c d e f g) other = exec (.encode t a b c d e f g) s) ∧
    (∀ a b c d e f x y : Byte, exec (.validate a b c d e f x y) other = exec (.validate a b c d e f x y) s) ∧
    (s.hostExec ≠ none → exec .start other = exec .start s) ∧
    (s.rcount = 8 → exec .check other = exec .check s)

/-- The bit equations of R90 (which the spec derives from R82 to R85; R85 rests on decisions D2 and D3), for both values
of `CRC_MIX3`. -/
def Obligations.ChecksumBitEquations : Prop :=
  ∀ (mix : CrcMix3) (acc : CrcAcc) (b : Byte),
    let N := fun i => (b ^^^ acc.lo).getLsbD i
    let h := fun i => acc.hi.getLsbD i
    let F := fun i => if i < 4 then N i else (N i ^^ N (i - 4))
    let H := fun i => (crcByte mix acc b).hi.getLsbD i
    let L := fun i => (crcByte mix acc b).lo.getLsbD i
    (H 0 = (F 0 ^^ F 5) ∧ H 1 = (F 1 ^^ F 6) ∧ H 2 = (F 2 ^^ F 7) ∧ H 3 = F 3 ∧ H 4 = F 4 ∧ H 5 = F 5 ∧
      H 6 = F 6 ∧ H 7 = F 7) ∧
    (mix = .shr3 →
      L 0 = (h 0 ^^ F 3 ^^ F 4) ∧ L 1 = (h 1 ^^ F 4 ^^ F 5) ∧ L 2 = (h 2 ^^ F 5 ^^ F 6) ∧
      L 3 = (h 3 ^^ F 6 ^^ F 7) ∧ L 4 = (h 4 ^^ F 7) ∧ L 5 = h 5 ∧ L 6 = h 6 ∧ L 7 = h 7) ∧
    (mix = .shl3 →
      L 0 = (h 0 ^^ F 4) ∧ L 1 = (h 1 ^^ F 5) ∧ L 2 = (h 2 ^^ F 6) ∧ L 3 = (h 3 ^^ F 0 ^^ F 7) ∧
      L 4 = (h 4 ^^ F 1) ∧ L 5 = (h 5 ^^ F 2) ∧ L 6 = (h 6 ^^ F 3) ∧ L 7 = (h 7 ^^ F 4))

/-- R87: the result is the complement of the two accumulators, the high one in bits 15 to 8. -/
def Obligations.ChecksumWordComplementsTheAccumulators : Prop :=
  ∀ (mix : CrcMix3) (bytes : List Byte) (offset count : Nat),
    let acc := crcRun mix ((bytes.drop offset).take count)
    let c := crc16 mix bytes offset count
    c.toNat = (~~~acc.hi).toNat * 256 + (~~~acc.lo).toNat ∧
    c.extractLsb' 8 8 = ~~~acc.hi ∧ c.extractLsb' 0 8 = ~~~acc.lo

/-- R91 (d) (derived in the spec): for a fixed input byte the byte step is a bijection on the accumulator states. -/
def Obligations.ByteStepIsBijective : Prop :=
  ∀ (mix : CrcMix3) (b : Byte), Function.Bijective (fun acc => crcByte mix acc b)

/-- R91 (d) (derived in the spec): sequences of one length that differ in one byte have different checksums. -/
def Obligations.OneByteChangeIsDetected : Prop :=
  ∀ (mix : CrcMix3) (pre post : List Byte) (b b' : Byte), b ≠ b' →
    crc16 mix (pre ++ b :: post) 0 (pre ++ b :: post).length ≠
      crc16 mix (pre ++ b' :: post) 0 (pre ++ b' :: post).length

/-- R91 (c) (derived in the spec): the checksum is affine over GF(2). -/
def Obligations.ChecksumIsAffine : Prop :=
  ∀ (mix : CrcMix3) (xs ys : List Byte), xs.length = ys.length →
    crc16 mix xs 0 xs.length ^^^ crc16 mix ys 0 xs.length ^^^
      crc16 mix (List.zipWith (· ^^^ ·) xs ys) 0 xs.length =
      crc16 mix (List.replicate xs.length 0x00) 0 xs.length

/-- R92 (from general knowledge, as the spec marks it): with `CRC_MIX3 = SHL3` the function is CRC-16/X-25, here written
as bit-by-bit division by the reflected polynomial. -/
def Obligations.LeftShiftVariantIsX25 : Prop :=
  ∀ bytes : List Byte, crc16 .shl3 bytes 0 bytes.length = x25 bytes

/-- CRC16 as an operation (R80, R87, R93): on operands that meet R80's requirement it presents the checksum, leaves its
complement in the accumulators and changes nothing else; what it presents and keeps is the model's choice (logs 7, 8).
Outside the requirement it is refused, which is the model's reading (log 16). -/
def Obligations.Crc16PresentsTheChecksum : Prop :=
  ∀ (bytes : List Byte) (offset count : Nat) (s : State),
    let c := crc16 s.params.crcMix3 bytes offset count
    (offset + count ≤ bytes.length →
      exec (.crc16 bytes offset count) s =
        .next { s with bccLo := ~~~crcLoByte c, bccHi := ~~~crcHiByte c, codecOut := .word c }) ∧
    (bytes.length < offset + count → exec (.crc16 bytes offset count) s = .refused .crcOperandRange)

/-! ### The frame codec -/

/-- R62: the two checksum bytes of a request, low before high, and the accumulators they complement. -/
def Obligations.RequestChecksumBytes : Prop :=
  ∀ (mix : CrcMix3) (tid : Byte) (p : Payload),
    let c := crc16 mix (tid :: p.toList) 0 8
    let acc := crcRun mix (tid :: p.toList)
    let f := encodeFrame mix tid p
    f[8] = c.extractLsb' 0 8 ∧ f[9] = c.extractLsb' 8 8 ∧ f[8] = ~~~acc.lo ∧ f[9] = ~~~acc.hi

/-- R63: the received word is `REP[7] * 256 + REP[6]`, both bytes used whole. -/
def Obligations.ReceivedChecksumWord : Prop :=
  ∀ (mix : CrcMix3) (rep : RepFrame),
    (receivedWord rep[6] rep[7]).toNat = rep[7].toNat * 256 + rep[6].toNat ∧
    (validateFrame mix rep = true ↔
      rep[7].toNat * 256 + rep[6].toNat =
        (crc16 mix [rep[0], rep[1], rep[2], rep[3], rep[4], rep[5]] 0 6).toNat)

/-- ENCODE as an operation (R100): the frame is the eight operand bytes and their checksum; nothing but the checksum
unit and the presented result changes; that these are kept is the model's choice (logs 7, 8). -/
def Obligations.EncodeBuildsTheRequestFrame : Prop :=
  ∀ (t a b c d e f g : Byte) (s : State),
    let w := crc16 s.params.crcMix3 [t, a, b, c, d, e, f, g] 0 8
    exec (.encode t a b c d e f g) s =
      .next { s with
        bccLo := ~~~crcLoByte w
        bccHi := ~~~crcHiByte w
        codecOut := .frame #v[t, a, b, c, d, e, f, g, crcLoByte w, crcHiByte w] }

/-- VALIDATE as an operation (R101): the verdict is whether the received word is the checksum of the first six bytes;
nothing but the checksum unit and the presented result changes; that these are kept is the model's choice (logs 7, 8). -/
def Obligations.ValidateJudgesTheReply : Prop :=
  ∀ (a b c d e f x y : Byte) (s : State),
    let w := crc16 s.params.crcMix3 [a, b, c, d, e, f] 0 6
    exec (.validate a b c d e f x y) s =
      .next { s with
        bccLo := ~~~crcLoByte w
        bccHi := ~~~crcHiByte w
        codecOut := .verdict (decide (y.toNat * 256 + x.toNat = w.toNat)) }

/-- R102 (a), (d) (derived in the spec): for six payload bytes exactly one pair of checksum bytes validates, the low and
high byte of their checksum. -/
def Obligations.ExactlyOneChecksumValidates : Prop :=
  ∀ (mix : CrcMix3) (a b c d e f x y : Byte),
    validateFrame mix #v[a, b, c, d, e, f, x, y] = true ↔
      x = crcLoByte (crc16 mix [a, b, c, d, e, f] 0 6) ∧ y = crcHiByte (crc16 mix [a, b, c, d, e, f] 0 6)

/-- R102 (c), (d) (derived in the spec): a valid reply with any one of its eight bytes changed does not validate. -/
def Obligations.TamperedReplyIsRejected : Prop :=
  ∀ (mix : CrcMix3) (rep : RepFrame) (k : Fin 8) (b : Byte),
    validateFrame mix rep = true → b ≠ rep[k] → validateFrame mix (rep.set k b) = false

/-- V3.14 (derived in the spec): no buffer of eight equal bytes validates, so a cleared `REP` never does. -/
def Obligations.ConstantFillNeverValidates : Prop :=
  ∀ (mix : CrcMix3) (c : Byte), validateFrame mix (Vector.replicate 8 c) = false

/-- The frame rows REQ10 and REP8: the frame reaches the receive queue in index order, byte 0 first (R42, R46); that a
frame row is run as a move of the bus is the model's choice (log 9). -/
def Obligations.FrameRowsReachTheReceiveQueue : Prop :=
  (∀ (t a b c d e f g x y : Byte) (s : State),
    exec (.req10 t a b c d e f g x y) s = .next { s with rxq := s.rxq ++ [t, a, b, c, d, e, f, g, x, y] }) ∧
  (∀ (a b c d e f x y : Byte) (s : State),
    exec (.rep8 a b c d e f x y) s = .next { s with rxq := s.rxq ++ [a, b, c, d, e, f, x, y] })

/-! ### The host operations and START -/

/-- R133 (decision D13): SETTID writes `TARGET_ID` and nothing else, in every phase. -/
def Obligations.SettidWritesTheTargetOnly : Prop :=
  ∀ (v : Byte) (s : State), exec (.settid v) s = .next { s with targetId := v }

/-- R132 (decisions D7, D12): what the acceptance of an EXECUTE leaves, and that it changes nothing else; the accumulators
left by its checksum are the model's choice (log 7), the port it clears is log 14. R130: with no EXECUTE from the host,
`IDLE` selects no operation and nothing changes. -/
def Obligations.StartOpensTheTransaction : Prop :=
  (∀ s : State, s.hostExec = none → exec .start s = .next s) ∧
  ∀ (s : State) (p : Payload), s.hostExec = some p →
    let c := crc16 s.params.crcMix3 (s.targetId :: p.toList) 0 8
    exec .start s =
      .next { s with
        sent := false
        validated := false
        rep := Vector.replicate 8 s.params.clearByte
        rcount := 0
        req := #v[s.targetId, p[0], p[1], p[2], p[3], p[4], p[5], p[6], crcLoByte c, crcHiByte c]
        bccLo := ~~~crcLoByte c
        bccHi := ~~~crcHiByte c
        attempt := 0
        busy := true
        hostExec := none
        phase := if s.params.maxAttempts = 0 then Phase.done else Phase.drain }

/-- R131 (decision D12): EXECUTE is accepted at `IDLE`, where its acceptance is START with its payload, and refused in
each of the nine other phases. That it is its own payload that is taken where another EXECUTE stands on the port is the
model's choice (log 14). -/
def Obligations.ExecuteIsAcceptedOnlyAtIdle : Prop :=
  ∀ (a b c d e f g : Byte) (s : State),
    (s.phase = Phase.idle →
      exec (.execute a b c d e f g) s = exec .start { s with hostExec := some #v[a, b, c, d, e, f, g] } ∧
      ∃ t, exec (.execute a b c d e f g) s = .next t ∧ t.busy = true) ∧
    (1 ≤ s.phase.toNat → s.phase.toNat ≤ 9 → exec (.execute a b c d e f g) s = .refused .executeWhileBusy)

/-- R67, U4 (decision D14): a code from `0xA` to `0xF` acts as `IDLE` does. -/
def Obligations.UnusedCodesActAsIdle : Prop :=
  ∀ (code : BitVec 4) (s : State),
    exec (.unused code) s = exec .start s ∧ ∃ t, exec (.unused code) s = .next t

/-! ### The direction controller -/

/-- R111, R112 (decisions D15, D25): DRAIN discards the oldest byte, whatever it is, and with an empty queue switches to
transmit and stamps the time in the same step. -/
def Obligations.DrainDiscardsThenSwitches : Prop :=
  (∀ (s : State) (b : Byte) (rest : List Byte), s.rxq = b :: rest → exec .drain s = .next { s with rxq := rest }) ∧
  (∀ s : State, s.rxq = [] →
    exec .drain s = .next { s with dir := .transmit, t0 := s.now, phase := Phase.settle })

/-- R113 (decisions D6, D8): SETTLE goes on to WRITE at the first step with `now - T0 >= T_SETTLE` and until then
changes nothing. -/
def Obligations.SettleHoldsForItsDelay : Prop :=
  ∀ s : State, s.t0 ≤ s.now →
    (s.t0 + s.params.tSettle ≤ s.now → exec .settle s = .next { s with phase := Phase.write }) ∧
    (s.now < s.t0 + s.params.tSettle → exec .settle s = .next s)

/-- R114: one `TxWrite` of all ten bytes; `SENT_COUNT` is the count returned, any number from 0 to 10 as the
environment chooses, 10 exactly when every byte is taken; with 0 the ECHO phase ends at its first step. The mask that
says which bytes are taken is the model's form of the choice (log 12); that the transmitter is not flushed right after
the write, also one that took nothing, is the model's choice (log 13). -/
def Obligations.WriteHandsOverTheRequest : Prop :=
  (∀ s : State,
    let taken := takenBytes s.txMask s.req.toList 0
    exec .write s =
      .next { s with
        txInFlight := s.txInFlight ++ taken
        txFlushed := false
        sentCount := taken.length
        phase := Phase.flush } ∧
    taken.length ≤ 10 ∧ (taken.length = 10 ↔ taken = s.req.toList) ∧
    ∀ n ≤ 10, ∃ mask, (takenBytes mask s.req.toList 0).length = n) ∧
  (∀ s : State, s.sentCount = 0 → exec .echo s = .next { s with phase := Phase.retry })

/-- R115: while the transmitter is not flushed FLUSH changes nothing, whatever the clock says, and the line is at
transmit throughout. -/
def Obligations.FlushWaitsWithoutDeadline : Prop :=
  (∀ s : State, s.txFlushed = false → exec .flush s = .next s) ∧
  (∀ s : State, Inv s → s.phase = Phase.flush → s.dir = .transmit)

/-- R116 (decision D25): the step that sees the transmitter flushed switches to receive, stamps the time and opens the
echo phase. -/
def Obligations.FlushReleasesTheLine : Prop :=
  ∀ s : State, s.txFlushed = true →
    exec .flush s = .next { s with dir := .receive, t0 := s.now, echoCount := 0, phase := Phase.echo }

/-- R117: with neither exit condition, ECHO discards the oldest byte whatever its value, counts it and stays. -/
def Obligations.EchoDiscardsOneByte : Prop :=
  ∀ (s : State) (b : Byte) (rest : List Byte), s.echoCount < s.sentCount → s.now - s.t0 < s.params.tEcho →
    s.rxq = b :: rest → exec .echo s = .next { s with rxq := rest, echoCount := s.echoCount + 1 }

/-- R118: with neither exit condition and no byte available, ECHO changes nothing. -/
def Obligations.EchoWaitsForBytes : Prop :=
  ∀ s : State, s.echoCount < s.sentCount → s.now - s.t0 < s.params.tEcho → s.rxq = [] → exec .echo s = .next s

/-- R119, R120 (decisions D6, D16, D17): ECHO ends by count or by window, tested before the queue, so no byte is popped;
after a full write it marks `SENT`, stamps the time and opens the reply read; after a short write it goes to RETRY. -/
def Obligations.EchoEndsByCountOrWindow : Prop :=
  ∀ s : State, s.sentCount ≤ s.echoCount ∨ s.params.tEcho ≤ s.now - s.t0 →
    exec .echo s =
      if s.sentCount = 10 then .next { s with sent := true, t0 := s.now, rcount := 0, phase := Phase.read }
      else .next { s with phase := Phase.retry }

/-- R56, R205 (derived in the spec): DRAIN and ECHO look at no byte's value: with other bytes in the queue, as many, they
do the same. -/
def Obligations.DrainAndEchoIgnoreByteValues : Prop :=
  ∀ (s : State) (q : List Byte), q.length = s.rxq.length →
    (∃ t t', exec .drain s = .next t ∧ exec .drain { s with rxq := q } = .next t' ∧
      t' = { t with rxq := t'.rxq } ∧ t'.rxq.length = t.rxq.length) ∧
    (∃ t t', exec .echo s = .next t ∧ exec .echo { s with rxq := q } = .next t' ∧
      t' = { t with rxq := t'.rxq } ∧ t'.rxq.length = t.rxq.length)

/-! ### The sequencer -/

/-- R140: with neither exit condition READ stores the oldest byte at `REP[RCOUNT]`, counts it and stays; `RCOUNT` does
not exceed 8. -/
def Obligations.ReadStoresOneByte : Prop :=
  ∀ (s : State) (b : Byte) (rest : List Byte) (h : s.rcount < 8), s.now - s.t0 < s.params.tReply →
    s.rxq = b :: rest →
    exec .read s = .next { s with rxq := rest, rep := s.rep.set s.rcount b, rcount := s.rcount + 1 } ∧
    s.rcount + 1 ≤ 8

/-- R141: with neither exit condition and no byte available, READ changes nothing. -/
def Obligations.ReadWaitsForBytes : Prop :=
  ∀ s : State, s.rcount ≠ 8 → s.now - s.t0 < s.params.tReply → s.rxq = [] → exec .read s = .next s

/-- R142 (decisions D6, D10): READ ends by a full buffer or by the deadline, tested before the queue, and changes nothing
but the phase. -/
def Obligations.ReadEndsByCountOrDeadline : Prop :=
  ∀ s : State, s.rcount = 8 ∨ s.params.tReply ≤ s.now - s.t0 → exec .read s = .next { s with phase := Phase.check }

/-- R143 (decision D23): length first, then checksum; success ends the transaction, both failures go to RETRY. The
accumulators left by the check are the model's choice (log 7). -/
def Obligations.CheckJudgesLengthThenChecksum : Prop :=
  ∀ s : State,
    let c := crc16 s.params.crcMix3 s.rep.toList 0 6
    (s.rcount ≠ 8 → exec .check s = .next { s with phase := Phase.retry }) ∧
    (s.rcount = 8 → s.rep[7].toNat * 256 + s.rep[6].toNat = c.toNat →
      exec .check s =
        .next { s with
          validated := true, bccLo := ~~~crcLoByte c, bccHi := ~~~crcHiByte c, phase := Phase.done }) ∧
    (s.rcount = 8 → s.rep[7].toNat * 256 + s.rep[6].toNat ≠ c.toNat →
      exec .check s = .next { s with bccLo := ~~~crcLoByte c, bccHi := ~~~crcHiByte c, phase := Phase.retry })

/-- R144, R170 (decision D33): RETRY counts the failed attempt, clears the reply buffer and its count, and goes on to a
new attempt while the budget lasts, else to the end. -/
def Obligations.RetryCountsAndClears : Prop :=
  ∀ s : State,
    exec .retry s =
      .next { s with
        attempt := s.attempt + 1
        rep := Vector.replicate 8 s.params.clearByte
        rcount := 0
        phase := if s.attempt + 1 < s.params.maxAttempts then Phase.drain else Phase.done }

/-- R145: DONE ends the transaction; without a valid reply it clears the reply buffer, which on that path is clear
already; the line is at receive; an IDLE turn without an EXECUTE changes nothing; and as long as the machine stays at
`IDLE` no step of any agent changes the outcome flags, the reply buffer or a counter (R145, R146). -/
def Obligations.DoneEndsTheTransaction : Prop :=
  (∀ s : State, s.validated = false →
    exec .done s =
      .next { s with rep := Vector.replicate 8 s.params.clearByte, busy := false, phase := Phase.idle }) ∧
  (∀ s : State, s.validated = true → exec .done s = .next { s with busy := false, phase := Phase.idle }) ∧
  (∀ s : State, Inv s → s.phase = Phase.done → s.dir = .receive ∧ (s.validated = false → RepClear s)) ∧
  (∀ s : State, s.hostExec = none → exec .start s = .next s) ∧
  (∀ s t : State, s.phase = Phase.idle → step s = .next t → t.phase = Phase.idle →
    t.sent = s.sent ∧ t.validated = s.validated ∧ t.busy = s.busy ∧ t.rep = s.rep ∧ t.attempt = s.attempt ∧
      t.sentCount = s.sentCount ∧ t.echoCount = s.echoCount ∧ t.rcount = s.rcount ∧ t.outcome = s.outcome)

/-- R64: the payload handed to the host is `REP[0..5]`, six bytes in index order, unmodified, without the checksum. -/
def Obligations.PayloadIsTheFirstSixBytes : Prop :=
  ∀ s : State, s.busy = false → s.validated = true →
    ∃ o, s.outcome = some o ∧ o.payload = some [s.rep[0], s.rep[1], s.rep[2], s.rep[3], s.rep[4], s.rep[5]]

/-- R146, R201 (decision D23): nothing is readable while busy, and an outcome is readable whenever the machine is not; the
flags are read as they are; a payload is there exactly with a valid reply; and of the four pairs of flags only three can
be read. That reading is a function and not a step, and that it answers before the first START too, where R146 does not
speak, is the model's choice (log 25). -/
def Obligations.OutcomeHidesWhatDidNotValidate : Prop :=
  ∀ s : State,
    (s.busy = true → s.outcome = none) ∧
    (s.busy = false → ∃ o, s.outcome = some o) ∧
    (∀ o, s.outcome = some o → o.sent = s.sent ∧ o.validated = s.validated ∧ (o.payload.isSome ↔ s.validated = true)) ∧
    (Inv s → ∀ o, s.outcome = some o → o.validated = true → o.sent = true)

/-! ### Reset and invariants -/

/-- The reset values R28 names (decisions D18, D19; `SENT` and `VALIDATED` are the source's). -/
def Obligations.ResetValues : Prop :=
  State.reset.phase = Phase.idle ∧ State.reset.busy = false ∧ State.reset.sent = false ∧
  State.reset.validated = false ∧ State.reset.attempt = 0 ∧ State.reset.sentCount = 0 ∧
  State.reset.echoCount = 0 ∧ State.reset.rcount = 0 ∧ State.reset.dir = .receive ∧
  ∀ k (h : k < 8), State.reset.rep[k] = State.reset.params.clearByte

/-- R147 (g) (derived in the spec): the two flags are 0 after reset, and as long as the machine stays idle they stay so. -/
def Obligations.FlagsStayClearUntilTheFirstStart : Prop :=
  (State.reset.sent = false ∧ State.reset.validated = false) ∧
  ∀ s t : State, s.phase = Phase.idle → s.sent = false → s.validated = false → step s = .next t →
    t.sent = false ∧ t.validated = false

/-- The invariant holds at reset; the values it speaks of that R28 leaves open are the model's (logs 5, 6). -/
def Obligations.ResetIsLegal : Prop := Inv State.reset

/-- Every step of every agent keeps the invariant: the laws of R147 (derived in the spec) with what they rest on, R147 (c)
in every phase but FLUSH (log 22). -/
def Obligations.StepKeepsTheInvariant : Prop :=
  ∀ s t : State, Inv s → step s = .next t → Inv t

/-- R147 (c) read literally, `ECHO_COUNT <= SENT_COUNT` in every state: it FAILS, since WRITE sets `SENT_COUNT` while
`ECHO_COUNT` still holds the count of the attempt before, until FLUSH ends (R20, R21, R114, R116, vector S13; log 22).
In every other phase it holds of the register, as a clause of the invariant; the bytes discarded in the current attempt
(R21) are another count, bounded in every phase by a clause of its own. -/
def Obligations.EchoCountNeverExceedsSentCount : Prop :=
  ∀ s t : State, Inv s → s.echoCount ≤ s.sentCount → step s = .next t → t.echoCount ≤ t.sentCount

/-- R130: after a sequencer turn `PHASE` holds one of the successors the table lists, and no other move changes it, but
for the acceptance of an EXECUTE at `IDLE`. (An unused code acts as `IDLE`, decision D14.) -/
def Obligations.PhaseFollowsItsSuccessors : Prop :=
  ∀ s t : State, step s = .next t →
    (s.fetch = some (.phase s.phase) → t.phase ∈ successors s.phase) ∧
    (t.phase ≠ s.phase → t.phase ∈ successors s.phase ∧
      (s.fetch = some (.phase s.phase) ∨ (Phase.actsAsIdle s.phase = true ∧ t.busy = true)))

/-- R10, R54, R147 (e) (derived in the spec): from START to DONE no step of any agent changes the request frame. -/
def Obligations.RequestIsFixedWhileBusy : Prop :=
  ∀ s t : State, Inv s → s.busy = true → step s = .next t → t.req = s.req

/-- R18, R54 (decision D13): only SETTID changes `TARGET_ID`, and it changes nothing else. -/
def Obligations.OnlySettidChangesTheTarget : Prop :=
  ∀ s t : State, step s = .next t →
    t.targetId = s.targetId ∨
      ∃ v, s.fetch = some (.external ⟨.settid, [v]⟩) ∧ t = { s.takeMove with targetId := v }

/-- R19, R112, R116 (decisions D18, D25): the line goes to transmit only in the step of DRAIN that found the queue empty,
and to receive only in the step of FLUSH that saw the transmitter flushed; both stamp the time. -/
def Obligations.LineSwitchesOnlyInDrainAndFlush : Prop :=
  ∀ s t : State, step s = .next t →
    (s.dir = .receive → t.dir = .transmit →
      s.fetch = some (.phase Phase.drain) ∧ s.rxq = [] ∧ t.phase = Phase.settle ∧ t.t0 = s.now) ∧
    (s.dir = .transmit → t.dir = .receive →
      s.fetch = some (.phase Phase.flush) ∧ s.txFlushed = true ∧ t.phase = Phase.echo ∧ t.t0 = s.now)

/-- R15 (decision D17): `SENT` once set is cleared by nothing but the START of the next transaction. -/
def Obligations.SentIsStickyWithinATransaction : Prop :=
  ∀ s t : State, Inv s → step s = .next t → s.sent = true → t.sent = false →
    s.phase = Phase.idle ∧ t.busy = true ∧ t.attempt = 0

/-- R49 (decision D5): the clock never goes back. 10_state.md section 5: the parameters are "constants of an instance, not
registers: no operation of the block writes them and the host has no operation that writes them" (that they stand in the
state is the model's choice, log 3). -/
def Obligations.ClockIsMonotoneAndParametersAreConstant : Prop :=
  ∀ s t : State, step s = .next t → s.now ≤ t.now ∧ t.params = s.params

/-- R160, R168, R169 (the labels are decision D22, the named classes log 26): a sequencer turn leads to RETRY exactly
when one of E1, E3, E4 is named, at most one of them is, E2 by itself changes no control flow (the way on depends on the
written count alone), and E5 is named exactly when RETRY ends the transaction. -/
def Obligations.FailurePathFollowsTheErrorClasses : Prop :=
  ∀ s t : State, Inv s → s.fetch = some (.phase s.phase) → step s = .next t →
    (t.phase = Phase.retry ↔ ∃ e ∈ s.errorClasses, endsAttempt e = true) ∧
    (s.errorClasses.filter endsAttempt).length ≤ 1 ∧
    (∀ c, .echoOverrun c ∈ s.errorClasses →
      t.phase = if s.sentCount = 10 then Phase.read else Phase.retry) ∧
    (.attemptsExhausted ∈ s.errorClasses ↔ s.phase = Phase.retry ∧ t.phase = Phase.done)

/-! ### Whole transactions -/

/-- R148, R149 (derived in the spec), over every run of every agent: from the first attempt, as long as the transaction
runs, `TxWrite` is called at most `MAX_ATTEMPTS` times; at an end without a valid reply exactly so often; at an end with
one exactly once more than the failed attempts. -/
def Obligations.AttemptBudgetIsRespected : Prop :=
  ∀ (n : Nat) (s t : State), Inv s → s.phase = Phase.drain → s.attempt = 0 →
    AllAlong (fun u => u.busy = true) n s → run n s = some t →
    txWrites n s ≤ s.params.maxAttempts ∧
    (t.phase = Phase.done → t.validated = false → txWrites n s = s.params.maxAttempts) ∧
    (t.phase = Phase.done → t.validated = true → txWrites n s = t.attempt + 1)

/-- R151, R56 (derived in the spec), over every run of every agent: while an attempt reads, `REP[0..RCOUNT-1]` are
exactly the bytes this attempt's READ steps popped, in order, and the rest of `REP` is clear: no byte of an earlier
attempt or transaction is among them. -/
def Obligations.ReplyBufferHoldsOnlyWhatThisAttemptRead : Prop :=
  ∀ (n : Nat) (s t : State), Inv s → s.phase = Phase.read → s.rcount = 0 →
    AllAlong (fun u => u.phase = Phase.read) n s → run n s = some t →
    t.rep.toList.take t.rcount = readBytes n s ∧ t.rcount = (readBytes n s).length ∧ RepTailClear t
end

