-- ==== Sys2Proof/Laws/Crc.lean ====
section
/-! SUPPORT. The pieces of the checksum step: what each inverse undoes, and how words and bytes correspond. -/

namespace Sys2Proof.Machine

open Sys2Proof.Config (CrcMix3)

/-- The fold is undone by `crcUnfold` (40_crc.md R83). -/
@[simp] theorem crcUnfold_crcFold (n : Byte) : crcUnfold (crcFold n) = n := by
  revert n; decide

/-- And the other way round. -/
@[simp] theorem crcFold_crcUnfold (f : Byte) : crcFold (crcUnfold f) = f := by
  revert f; decide

/-- The high accumulator gives the folded value back (40_crc.md R84). -/
@[simp] theorem crcUnHigh_crcHigh (f : Byte) : crcUnHigh (crcHigh f) = f := by
  revert f; decide

/-- And the other way round. -/
@[simp] theorem crcHigh_crcUnHigh (h : Byte) : crcHigh (crcUnHigh h) = h := by
  revert h; decide

/-- The fold spreads over exclusive-or. -/
theorem crcFold_xor (a b : Byte) : crcFold (a ^^^ b) = crcFold a ^^^ crcFold b := by
  ext i; simp [crcFold]; grind

/-- So does the high accumulator. -/
theorem crcHigh_xor (a b : Byte) : crcHigh (a ^^^ b) = crcHigh a ^^^ crcHigh b := by
  ext i; simp [crcHigh]; grind

/-- So does the term of the 3-bit shift, in both directions. -/
theorem crcT3_xor (mix : CrcMix3) (a b : Byte) : crcT3 mix (a ^^^ b) = crcT3 mix a ^^^ crcT3 mix b := by
  cases mix <;> (ext i; simp [crcT3]; try grind)

/-- The low byte of a packed word. -/
@[simp] theorem crcLoByte_packWord (h l : Byte) : crcLoByte (packWord h l) = l := by
  ext i hi
  simp [crcLoByte, packWord]

/-- The high byte of a packed word. -/
@[simp] theorem crcHiByte_packWord (h l : Byte) : crcHiByte (packWord h l) = h := by
  ext i hi
  have h8 : 8 + i < 16 := by omega
  have h16 : i < 16 := by omega
  simp [crcHiByte, packWord, h8, h16, BitVec.getLsbD_eq_getElem hi]

/-- A word is its two bytes packed (30_encoding.md R62, R63). -/
@[simp] theorem packWord_bytes (c : Word16) : packWord (crcHiByte c) (crcLoByte c) = c := by
  ext i hi
  simp only [packWord, crcLoByte, crcHiByte, BitVec.getElem_or, BitVec.getElem_shiftLeft, BitVec.getElem_setWidth]
  rcases Nat.lt_or_ge i 8 with h | h
  · simp [h, ← BitVec.getLsbD_eq_getElem]
  · simp [h, ← BitVec.getLsbD_eq_getElem]; grind

/-- Two packed words are equal exactly where their bytes are. -/
@[simp] theorem packWord_inj (h l h' l' : Byte) : packWord h l = packWord h' l' ↔ h = h' ∧ l = l' := by
  constructor
  · intro e
    exact ⟨by simpa using congrArg crcHiByte e, by simpa using congrArg crcLoByte e⟩
  · rintro ⟨rfl, rfl⟩; rfl

/-- Packing loses nothing: the accumulators are the complements of the word's bytes. -/
theorem crcWord_injective : Function.Injective crcWord := by
  rintro ⟨al, ah⟩ ⟨bl, bh⟩ h
  simpa [crcWord, and_comm] using h

end Sys2Proof.Machine
end

