-- ==== Sys2Proof/Laws/State.lean ====
section
/-! SUPPORT. The state after each named update, field by field: so that no later proof unfolds a record update. -/

namespace Sys2Proof.Machine

/-! ### goto -/

@[simp] theorem State.goto_req (s : State) (p : BitVec 4) : (s.goto p).req = s.req := rfl
@[simp] theorem State.goto_rep (s : State) (p : BitVec 4) : (s.goto p).rep = s.rep := rfl
@[simp] theorem State.goto_bccLo (s : State) (p : BitVec 4) : (s.goto p).bccLo = s.bccLo := rfl
@[simp] theorem State.goto_bccHi (s : State) (p : BitVec 4) : (s.goto p).bccHi = s.bccHi := rfl
@[simp] theorem State.goto_phase (s : State) (p : BitVec 4) : (s.goto p).phase = p := rfl
@[simp] theorem State.goto_attempt (s : State) (p : BitVec 4) : (s.goto p).attempt = s.attempt := rfl
@[simp] theorem State.goto_sent (s : State) (p : BitVec 4) : (s.goto p).sent = s.sent := rfl
@[simp] theorem State.goto_validated (s : State) (p : BitVec 4) : (s.goto p).validated = s.validated := rfl
@[simp] theorem State.goto_busy (s : State) (p : BitVec 4) : (s.goto p).busy = s.busy := rfl
@[simp] theorem State.goto_targetId (s : State) (p : BitVec 4) : (s.goto p).targetId = s.targetId := rfl
@[simp] theorem State.goto_dir (s : State) (p : BitVec 4) : (s.goto p).dir = s.dir := rfl
@[simp] theorem State.goto_sentCount (s : State) (p : BitVec 4) : (s.goto p).sentCount = s.sentCount := rfl
@[simp] theorem State.goto_echoCount (s : State) (p : BitVec 4) : (s.goto p).echoCount = s.echoCount := rfl
@[simp] theorem State.goto_rcount (s : State) (p : BitVec 4) : (s.goto p).rcount = s.rcount := rfl
@[simp] theorem State.goto_t0 (s : State) (p : BitVec 4) : (s.goto p).t0 = s.t0 := rfl
@[simp] theorem State.goto_params (s : State) (p : BitVec 4) : (s.goto p).params = s.params := rfl
@[simp] theorem State.goto_rxq (s : State) (p : BitVec 4) : (s.goto p).rxq = s.rxq := rfl
@[simp] theorem State.goto_txInFlight (s : State) (p : BitVec 4) : (s.goto p).txInFlight = s.txInFlight := rfl
@[simp] theorem State.goto_txFlushed (s : State) (p : BitVec 4) : (s.goto p).txFlushed = s.txFlushed := rfl
@[simp] theorem State.goto_txMask (s : State) (p : BitVec 4) : (s.goto p).txMask = s.txMask := rfl
@[simp] theorem State.goto_now (s : State) (p : BitVec 4) : (s.goto p).now = s.now := rfl
@[simp] theorem State.goto_hostExec (s : State) (p : BitVec 4) : (s.goto p).hostExec = s.hostExec := rfl
@[simp] theorem State.goto_codecOut (s : State) (p : BitVec 4) : (s.goto p).codecOut = s.codecOut := rfl
@[simp] theorem State.goto_agenda (s : State) (p : BitVec 4) : (s.goto p).agenda = s.agenda := rfl
@[simp] theorem State.goto_draws (s : State) (p : BitVec 4) : (s.goto p).draws = s.draws := rfl

/-! ### raise -/

@[simp] theorem State.raise_req (s : State) (e : ErrorClass) : (s.raise e).req = s.req := rfl
@[simp] theorem State.raise_rep (s : State) (e : ErrorClass) : (s.raise e).rep = s.rep := rfl
@[simp] theorem State.raise_bccLo (s : State) (e : ErrorClass) : (s.raise e).bccLo = s.bccLo := rfl
@[simp] theorem State.raise_bccHi (s : State) (e : ErrorClass) : (s.raise e).bccHi = s.bccHi := rfl
@[simp] theorem State.raise_phase (s : State) (e : ErrorClass) : (s.raise e).phase = Phase.retry := rfl
@[simp] theorem State.raise_attempt (s : State) (e : ErrorClass) : (s.raise e).attempt = s.attempt := rfl
@[simp] theorem State.raise_sent (s : State) (e : ErrorClass) : (s.raise e).sent = s.sent := rfl
@[simp] theorem State.raise_validated (s : State) (e : ErrorClass) : (s.raise e).validated = s.validated := rfl
@[simp] theorem State.raise_busy (s : State) (e : ErrorClass) : (s.raise e).busy = s.busy := rfl
@[simp] theorem State.raise_targetId (s : State) (e : ErrorClass) : (s.raise e).targetId = s.targetId := rfl
@[simp] theorem State.raise_dir (s : State) (e : ErrorClass) : (s.raise e).dir = s.dir := rfl
@[simp] theorem State.raise_sentCount (s : State) (e : ErrorClass) : (s.raise e).sentCount = s.sentCount := rfl
@[simp] theorem State.raise_echoCount (s : State) (e : ErrorClass) : (s.raise e).echoCount = s.echoCount := rfl
@[simp] theorem State.raise_rcount (s : State) (e : ErrorClass) : (s.raise e).rcount = s.rcount := rfl
@[simp] theorem State.raise_t0 (s : State) (e : ErrorClass) : (s.raise e).t0 = s.t0 := rfl
@[simp] theorem State.raise_params (s : State) (e : ErrorClass) : (s.raise e).params = s.params := rfl
@[simp] theorem State.raise_rxq (s : State) (e : ErrorClass) : (s.raise e).rxq = s.rxq := rfl
@[simp] theorem State.raise_txInFlight (s : State) (e : ErrorClass) : (s.raise e).txInFlight = s.txInFlight := rfl
@[simp] theorem State.raise_txFlushed (s : State) (e : ErrorClass) : (s.raise e).txFlushed = s.txFlushed := rfl
@[simp] theorem State.raise_txMask (s : State) (e : ErrorClass) : (s.raise e).txMask = s.txMask := rfl
@[simp] theorem State.raise_now (s : State) (e : ErrorClass) : (s.raise e).now = s.now := rfl
@[simp] theorem State.raise_hostExec (s : State) (e : ErrorClass) : (s.raise e).hostExec = s.hostExec := rfl
@[simp] theorem State.raise_codecOut (s : State) (e : ErrorClass) : (s.raise e).codecOut = s.codecOut := rfl
@[simp] theorem State.raise_agenda (s : State) (e : ErrorClass) : (s.raise e).agenda = s.agenda := rfl
@[simp] theorem State.raise_draws (s : State) (e : ErrorClass) : (s.raise e).draws = s.draws := rfl

/-! ### returnFromRetry -/

@[simp] theorem State.returnFromRetry_req (s : State) : (s.returnFromRetry).req = s.req := rfl
@[simp] theorem State.returnFromRetry_rep (s : State) : (s.returnFromRetry).rep = s.rep := rfl
@[simp] theorem State.returnFromRetry_bccLo (s : State) : (s.returnFromRetry).bccLo = s.bccLo := rfl
@[simp] theorem State.returnFromRetry_bccHi (s : State) : (s.returnFromRetry).bccHi = s.bccHi := rfl
@[simp] theorem State.returnFromRetry_phase (s : State) :
    (s.returnFromRetry).phase = if s.attempt < s.params.maxAttempts then Phase.drain else Phase.done := rfl
@[simp] theorem State.returnFromRetry_attempt (s : State) : (s.returnFromRetry).attempt = s.attempt := rfl
@[simp] theorem State.returnFromRetry_sent (s : State) : (s.returnFromRetry).sent = s.sent := rfl
@[simp] theorem State.returnFromRetry_validated (s : State) : (s.returnFromRetry).validated = s.validated := rfl
@[simp] theorem State.returnFromRetry_busy (s : State) : (s.returnFromRetry).busy = s.busy := rfl
@[simp] theorem State.returnFromRetry_targetId (s : State) : (s.returnFromRetry).targetId = s.targetId := rfl
@[simp] theorem State.returnFromRetry_dir (s : State) : (s.returnFromRetry).dir = s.dir := rfl
@[simp] theorem State.returnFromRetry_sentCount (s : State) : (s.returnFromRetry).sentCount = s.sentCount := rfl
@[simp] theorem State.returnFromRetry_echoCount (s : State) : (s.returnFromRetry).echoCount = s.echoCount := rfl
@[simp] theorem State.returnFromRetry_rcount (s : State) : (s.returnFromRetry).rcount = s.rcount := rfl
@[simp] theorem State.returnFromRetry_t0 (s : State) : (s.returnFromRetry).t0 = s.t0 := rfl
@[simp] theorem State.returnFromRetry_params (s : State) : (s.returnFromRetry).params = s.params := rfl
@[simp] theorem State.returnFromRetry_rxq (s : State) : (s.returnFromRetry).rxq = s.rxq := rfl
@[simp] theorem State.returnFromRetry_txInFlight (s : State) : (s.returnFromRetry).txInFlight = s.txInFlight := rfl
@[simp] theorem State.returnFromRetry_txFlushed (s : State) : (s.returnFromRetry).txFlushed = s.txFlushed := rfl
@[simp] theorem State.returnFromRetry_txMask (s : State) : (s.returnFromRetry).txMask = s.txMask := rfl
@[simp] theorem State.returnFromRetry_now (s : State) : (s.returnFromRetry).now = s.now := rfl
@[simp] theorem State.returnFromRetry_hostExec (s : State) : (s.returnFromRetry).hostExec = s.hostExec := rfl
@[simp] theorem State.returnFromRetry_codecOut (s : State) : (s.returnFromRetry).codecOut = s.codecOut := rfl
@[simp] theorem State.returnFromRetry_agenda (s : State) : (s.returnFromRetry).agenda = s.agenda := rfl
@[simp] theorem State.returnFromRetry_draws (s : State) : (s.returnFromRetry).draws = s.draws := rfl

/-! ### stampT0 -/

@[simp] theorem State.stampT0_req (s : State) : (s.stampT0).req = s.req := rfl
@[simp] theorem State.stampT0_rep (s : State) : (s.stampT0).rep = s.rep := rfl
@[simp] theorem State.stampT0_bccLo (s : State) : (s.stampT0).bccLo = s.bccLo := rfl
@[simp] theorem State.stampT0_bccHi (s : State) : (s.stampT0).bccHi = s.bccHi := rfl
@[simp] theorem State.stampT0_phase (s : State) : (s.stampT0).phase = s.phase := rfl
@[simp] theorem State.stampT0_attempt (s : State) : (s.stampT0).attempt = s.attempt := rfl
@[simp] theorem State.stampT0_sent (s : State) : (s.stampT0).sent = s.sent := rfl
@[simp] theorem State.stampT0_validated (s : State) : (s.stampT0).validated = s.validated := rfl
@[simp] theorem State.stampT0_busy (s : State) : (s.stampT0).busy = s.busy := rfl
@[simp] theorem State.stampT0_targetId (s : State) : (s.stampT0).targetId = s.targetId := rfl
@[simp] theorem State.stampT0_dir (s : State) : (s.stampT0).dir = s.dir := rfl
@[simp] theorem State.stampT0_sentCount (s : State) : (s.stampT0).sentCount = s.sentCount := rfl
@[simp] theorem State.stampT0_echoCount (s : State) : (s.stampT0).echoCount = s.echoCount := rfl
@[simp] theorem State.stampT0_rcount (s : State) : (s.stampT0).rcount = s.rcount := rfl
@[simp] theorem State.stampT0_t0 (s : State) : (s.stampT0).t0 = s.now := rfl
@[simp] theorem State.stampT0_params (s : State) : (s.stampT0).params = s.params := rfl
@[simp] theorem State.stampT0_rxq (s : State) : (s.stampT0).rxq = s.rxq := rfl
@[simp] theorem State.stampT0_txInFlight (s : State) : (s.stampT0).txInFlight = s.txInFlight := rfl
@[simp] theorem State.stampT0_txFlushed (s : State) : (s.stampT0).txFlushed = s.txFlushed := rfl
@[simp] theorem State.stampT0_txMask (s : State) : (s.stampT0).txMask = s.txMask := rfl
@[simp] theorem State.stampT0_now (s : State) : (s.stampT0).now = s.now := rfl
@[simp] theorem State.stampT0_hostExec (s : State) : (s.stampT0).hostExec = s.hostExec := rfl
@[simp] theorem State.stampT0_codecOut (s : State) : (s.stampT0).codecOut = s.codecOut := rfl
@[simp] theorem State.stampT0_agenda (s : State) : (s.stampT0).agenda = s.agenda := rfl
@[simp] theorem State.stampT0_draws (s : State) : (s.stampT0).draws = s.draws := rfl

/-! ### setDir -/

@[simp] theorem State.setDir_req (s : State) (d : Direction) : (s.setDir d).req = s.req := rfl
@[simp] theorem State.setDir_rep (s : State) (d : Direction) : (s.setDir d).rep = s.rep := rfl
@[simp] theorem State.setDir_bccLo (s : State) (d : Direction) : (s.setDir d).bccLo = s.bccLo := rfl
@[simp] theorem State.setDir_bccHi (s : State) (d : Direction) : (s.setDir d).bccHi = s.bccHi := rfl
@[simp] theorem State.setDir_phase (s : State) (d : Direction) : (s.setDir d).phase = s.phase := rfl
@[simp] theorem State.setDir_attempt (s : State) (d : Direction) : (s.setDir d).attempt = s.attempt := rfl
@[simp] theorem State.setDir_sent (s : State) (d : Direction) : (s.setDir d).sent = s.sent := rfl
@[simp] theorem State.setDir_validated (s : State) (d : Direction) : (s.setDir d).validated = s.validated := rfl
@[simp] theorem State.setDir_busy (s : State) (d : Direction) : (s.setDir d).busy = s.busy := rfl
@[simp] theorem State.setDir_targetId (s : State) (d : Direction) : (s.setDir d).targetId = s.targetId := rfl
@[simp] theorem State.setDir_dir (s : State) (d : Direction) : (s.setDir d).dir = d := rfl
@[simp] theorem State.setDir_sentCount (s : State) (d : Direction) : (s.setDir d).sentCount = s.sentCount := rfl
@[simp] theorem State.setDir_echoCount (s : State) (d : Direction) : (s.setDir d).echoCount = s.echoCount := rfl
@[simp] theorem State.setDir_rcount (s : State) (d : Direction) : (s.setDir d).rcount = s.rcount := rfl
@[simp] theorem State.setDir_t0 (s : State) (d : Direction) : (s.setDir d).t0 = s.t0 := rfl
@[simp] theorem State.setDir_params (s : State) (d : Direction) : (s.setDir d).params = s.params := rfl
@[simp] theorem State.setDir_rxq (s : State) (d : Direction) : (s.setDir d).rxq = s.rxq := rfl
@[simp] theorem State.setDir_txInFlight (s : State) (d : Direction) : (s.setDir d).txInFlight = s.txInFlight := rfl
@[simp] theorem State.setDir_txFlushed (s : State) (d : Direction) : (s.setDir d).txFlushed = s.txFlushed := rfl
@[simp] theorem State.setDir_txMask (s : State) (d : Direction) : (s.setDir d).txMask = s.txMask := rfl
@[simp] theorem State.setDir_now (s : State) (d : Direction) : (s.setDir d).now = s.now := rfl
@[simp] theorem State.setDir_hostExec (s : State) (d : Direction) : (s.setDir d).hostExec = s.hostExec := rfl
@[simp] theorem State.setDir_codecOut (s : State) (d : Direction) : (s.setDir d).codecOut = s.codecOut := rfl
@[simp] theorem State.setDir_agenda (s : State) (d : Direction) : (s.setDir d).agenda = s.agenda := rfl
@[simp] theorem State.setDir_draws (s : State) (d : Direction) : (s.setDir d).draws = s.draws := rfl

/-! ### clearRep -/

@[simp] theorem State.clearRep_req (s : State) : (s.clearRep).req = s.req := rfl
@[simp] theorem State.clearRep_rep (s : State) : (s.clearRep).rep = Vector.replicate 8 s.params.clearByte := rfl
@[simp] theorem State.clearRep_bccLo (s : State) : (s.clearRep).bccLo = s.bccLo := rfl
@[simp] theorem State.clearRep_bccHi (s : State) : (s.clearRep).bccHi = s.bccHi := rfl
@[simp] theorem State.clearRep_phase (s : State) : (s.clearRep).phase = s.phase := rfl
@[simp] theorem State.clearRep_attempt (s : State) : (s.clearRep).attempt = s.attempt := rfl
@[simp] theorem State.clearRep_sent (s : State) : (s.clearRep).sent = s.sent := rfl
@[simp] theorem State.clearRep_validated (s : State) : (s.clearRep).validated = s.validated := rfl
@[simp] theorem State.clearRep_busy (s : State) : (s.clearRep).busy = s.busy := rfl
@[simp] theorem State.clearRep_targetId (s : State) : (s.clearRep).targetId = s.targetId := rfl
@[simp] theorem State.clearRep_dir (s : State) : (s.clearRep).dir = s.dir := rfl
@[simp] theorem State.clearRep_sentCount (s : State) : (s.clearRep).sentCount = s.sentCount := rfl
@[simp] theorem State.clearRep_echoCount (s : State) : (s.clearRep).echoCount = s.echoCount := rfl
@[simp] theorem State.clearRep_rcount (s : State) : (s.clearRep).rcount = s.rcount := rfl
@[simp] theorem State.clearRep_t0 (s : State) : (s.clearRep).t0 = s.t0 := rfl
@[simp] theorem State.clearRep_params (s : State) : (s.clearRep).params = s.params := rfl
@[simp] theorem State.clearRep_rxq (s : State) : (s.clearRep).rxq = s.rxq := rfl
@[simp] theorem State.clearRep_txInFlight (s : State) : (s.clearRep).txInFlight = s.txInFlight := rfl
@[simp] theorem State.clearRep_txFlushed (s : State) : (s.clearRep).txFlushed = s.txFlushed := rfl
@[simp] theorem State.clearRep_txMask (s : State) : (s.clearRep).txMask = s.txMask := rfl
@[simp] theorem State.clearRep_now (s : State) : (s.clearRep).now = s.now := rfl
@[simp] theorem State.clearRep_hostExec (s : State) : (s.clearRep).hostExec = s.hostExec := rfl
@[simp] theorem State.clearRep_codecOut (s : State) : (s.clearRep).codecOut = s.codecOut := rfl
@[simp] theorem State.clearRep_agenda (s : State) : (s.clearRep).agenda = s.agenda := rfl
@[simp] theorem State.clearRep_draws (s : State) : (s.clearRep).draws = s.draws := rfl

/-! ### storeRep -/

@[simp] theorem State.storeRep_req (s : State) (b : Byte) : (s.storeRep b).req = s.req := rfl
@[simp] theorem State.storeRep_rep (s : State) (b : Byte) :
    (s.storeRep b).rep = s.rep.setIfInBounds s.rcount b := rfl
@[simp] theorem State.storeRep_bccLo (s : State) (b : Byte) : (s.storeRep b).bccLo = s.bccLo := rfl
@[simp] theorem State.storeRep_bccHi (s : State) (b : Byte) : (s.storeRep b).bccHi = s.bccHi := rfl
@[simp] theorem State.storeRep_phase (s : State) (b : Byte) : (s.storeRep b).phase = s.phase := rfl
@[simp] theorem State.storeRep_attempt (s : State) (b : Byte) : (s.storeRep b).attempt = s.attempt := rfl
@[simp] theorem State.storeRep_sent (s : State) (b : Byte) : (s.storeRep b).sent = s.sent := rfl
@[simp] theorem State.storeRep_validated (s : State) (b : Byte) : (s.storeRep b).validated = s.validated := rfl
@[simp] theorem State.storeRep_busy (s : State) (b : Byte) : (s.storeRep b).busy = s.busy := rfl
@[simp] theorem State.storeRep_targetId (s : State) (b : Byte) : (s.storeRep b).targetId = s.targetId := rfl
@[simp] theorem State.storeRep_dir (s : State) (b : Byte) : (s.storeRep b).dir = s.dir := rfl
@[simp] theorem State.storeRep_sentCount (s : State) (b : Byte) : (s.storeRep b).sentCount = s.sentCount := rfl
@[simp] theorem State.storeRep_echoCount (s : State) (b : Byte) : (s.storeRep b).echoCount = s.echoCount := rfl
@[simp] theorem State.storeRep_rcount (s : State) (b : Byte) : (s.storeRep b).rcount = s.rcount + 1 := rfl
@[simp] theorem State.storeRep_t0 (s : State) (b : Byte) : (s.storeRep b).t0 = s.t0 := rfl
@[simp] theorem State.storeRep_params (s : State) (b : Byte) : (s.storeRep b).params = s.params := rfl
@[simp] theorem State.storeRep_rxq (s : State) (b : Byte) : (s.storeRep b).rxq = s.rxq := rfl
@[simp] theorem State.storeRep_txInFlight (s : State) (b : Byte) : (s.storeRep b).txInFlight = s.txInFlight := rfl
@[simp] theorem State.storeRep_txFlushed (s : State) (b : Byte) : (s.storeRep b).txFlushed = s.txFlushed := rfl
@[simp] theorem State.storeRep_txMask (s : State) (b : Byte) : (s.storeRep b).txMask = s.txMask := rfl
@[simp] theorem State.storeRep_now (s : State) (b : Byte) : (s.storeRep b).now = s.now := rfl
@[simp] theorem State.storeRep_hostExec (s : State) (b : Byte) : (s.storeRep b).hostExec = s.hostExec := rfl
@[simp] theorem State.storeRep_codecOut (s : State) (b : Byte) : (s.storeRep b).codecOut = s.codecOut := rfl
@[simp] theorem State.storeRep_agenda (s : State) (b : Byte) : (s.storeRep b).agenda = s.agenda := rfl
@[simp] theorem State.storeRep_draws (s : State) (b : Byte) : (s.storeRep b).draws = s.draws := rfl

/-! ### crcUnit -/

@[simp] theorem State.crcUnit_req (s : State) (bytes : List Byte) : (s.crcUnit bytes).req = s.req := rfl
@[simp] theorem State.crcUnit_rep (s : State) (bytes : List Byte) : (s.crcUnit bytes).rep = s.rep := rfl
@[simp] theorem State.crcUnit_bccLo (s : State) (bytes : List Byte) :
    (s.crcUnit bytes).bccLo = (crcRun s.params.crcMix3 bytes).lo := rfl
@[simp] theorem State.crcUnit_bccHi (s : State) (bytes : List Byte) :
    (s.crcUnit bytes).bccHi = (crcRun s.params.crcMix3 bytes).hi := rfl
@[simp] theorem State.crcUnit_phase (s : State) (bytes : List Byte) : (s.crcUnit bytes).phase = s.phase := rfl
@[simp] theorem State.crcUnit_attempt (s : State) (bytes : List Byte) : (s.crcUnit bytes).attempt = s.attempt := rfl
@[simp] theorem State.crcUnit_sent (s : State) (bytes : List Byte) : (s.crcUnit bytes).sent = s.sent := rfl
@[simp] theorem State.crcUnit_validated (s : State) (bytes : List Byte) :
    (s.crcUnit bytes).validated = s.validated := rfl
@[simp] theorem State.crcUnit_busy (s : State) (bytes : List Byte) : (s.crcUnit bytes).busy = s.busy := rfl
@[simp] theorem State.crcUnit_targetId (s : State) (bytes : List Byte) :
    (s.crcUnit bytes).targetId = s.targetId := rfl
@[simp] theorem State.crcUnit_dir (s : State) (bytes : List Byte) : (s.crcUnit bytes).dir = s.dir := rfl
@[simp] theorem State.crcUnit_sentCount (s : State) (bytes : List Byte) :
    (s.crcUnit bytes).sentCount = s.sentCount := rfl
@[simp] theorem State.crcUnit_echoCount (s : State) (bytes : List Byte) :
    (s.crcUnit bytes).echoCount = s.echoCount := rfl
@[simp] theorem State.crcUnit_rcount (s : State) (bytes : List Byte) : (s.crcUnit bytes).rcount = s.rcount := rfl
@[simp] theorem State.crcUnit_t0 (s : State) (bytes : List Byte) : (s.crcUnit bytes).t0 = s.t0 := rfl
@[simp] theorem State.crcUnit_params (s : State) (bytes : List Byte) : (s.crcUnit bytes).params = s.params := rfl
@[simp] theorem State.crcUnit_rxq (s : State) (bytes : List Byte) : (s.crcUnit bytes).rxq = s.rxq := rfl
@[simp] theorem State.crcUnit_txInFlight (s : State) (bytes : List Byte) :
    (s.crcUnit bytes).txInFlight = s.txInFlight := rfl
@[simp] theorem State.crcUnit_txFlushed (s : State) (bytes : List Byte) :
    (s.crcUnit bytes).txFlushed = s.txFlushed := rfl
@[simp] theorem State.crcUnit_txMask (s : State) (bytes : List Byte) : (s.crcUnit bytes).txMask = s.txMask := rfl
@[simp] theorem State.crcUnit_now (s : State) (bytes : List Byte) : (s.crcUnit bytes).now = s.now := rfl
@[simp] theorem State.crcUnit_hostExec (s : State) (bytes : List Byte) :
    (s.crcUnit bytes).hostExec = s.hostExec := rfl
@[simp] theorem State.crcUnit_codecOut (s : State) (bytes : List Byte) :
    (s.crcUnit bytes).codecOut = s.codecOut := rfl
@[simp] theorem State.crcUnit_agenda (s : State) (bytes : List Byte) : (s.crcUnit bytes).agenda = s.agenda := rfl
@[simp] theorem State.crcUnit_draws (s : State) (bytes : List Byte) : (s.crcUnit bytes).draws = s.draws := rfl

/-! ### rxAppend -/

@[simp] theorem State.rxAppend_req (s : State) (bytes : List Byte) : (s.rxAppend bytes).req = s.req := rfl
@[simp] theorem State.rxAppend_rep (s : State) (bytes : List Byte) : (s.rxAppend bytes).rep = s.rep := rfl
@[simp] theorem State.rxAppend_bccLo (s : State) (bytes : List Byte) : (s.rxAppend bytes).bccLo = s.bccLo := rfl
@[simp] theorem State.rxAppend_bccHi (s : State) (bytes : List Byte) : (s.rxAppend bytes).bccHi = s.bccHi := rfl
@[simp] theorem State.rxAppend_phase (s : State) (bytes : List Byte) : (s.rxAppend bytes).phase = s.phase := rfl
@[simp] theorem State.rxAppend_attempt (s : State) (bytes : List Byte) :
    (s.rxAppend bytes).attempt = s.attempt := rfl
@[simp] theorem State.rxAppend_sent (s : State) (bytes : List Byte) : (s.rxAppend bytes).sent = s.sent := rfl
@[simp] theorem State.rxAppend_validated (s : State) (bytes : List Byte) :
    (s.rxAppend bytes).validated = s.validated := rfl
@[simp] theorem State.rxAppend_busy (s : State) (bytes : List Byte) : (s.rxAppend bytes).busy = s.busy := rfl
@[simp] theorem State.rxAppend_targetId (s : State) (bytes : List Byte) :
    (s.rxAppend bytes).targetId = s.targetId := rfl
@[simp] theorem State.rxAppend_dir (s : State) (bytes : List Byte) : (s.rxAppend bytes).dir = s.dir := rfl
@[simp] theorem State.rxAppend_sentCount (s : State) (bytes : List Byte) :
    (s.rxAppend bytes).sentCount = s.sentCount := rfl
@[simp] theorem State.rxAppend_echoCount (s : State) (bytes : List Byte) :
    (s.rxAppend bytes).echoCount = s.echoCount := rfl
@[simp] theorem State.rxAppend_rcount (s : State) (bytes : List Byte) : (s.rxAppend bytes).rcount = s.rcount := rfl
@[simp] theorem State.rxAppend_t0 (s : State) (bytes : List Byte) : (s.rxAppend bytes).t0 = s.t0 := rfl
@[simp] theorem State.rxAppend_params (s : State) (bytes : List Byte) : (s.rxAppend bytes).params = s.params := rfl
@[simp] theorem State.rxAppend_rxq (s : State) (bytes : List Byte) : (s.rxAppend bytes).rxq = s.rxq ++ bytes := rfl
@[simp] theorem State.rxAppend_txInFlight (s : State) (bytes : List Byte) :
    (s.rxAppend bytes).txInFlight = s.txInFlight := rfl
@[simp] theorem State.rxAppend_txFlushed (s : State) (bytes : List Byte) :
    (s.rxAppend bytes).txFlushed = s.txFlushed := rfl
@[simp] theorem State.rxAppend_txMask (s : State) (bytes : List Byte) : (s.rxAppend bytes).txMask = s.txMask := rfl
@[simp] theorem State.rxAppend_now (s : State) (bytes : List Byte) : (s.rxAppend bytes).now = s.now := rfl
@[simp] theorem State.rxAppend_hostExec (s : State) (bytes : List Byte) :
    (s.rxAppend bytes).hostExec = s.hostExec := rfl
@[simp] theorem State.rxAppend_codecOut (s : State) (bytes : List Byte) :
    (s.rxAppend bytes).codecOut = s.codecOut := rfl
@[simp] theorem State.rxAppend_agenda (s : State) (bytes : List Byte) : (s.rxAppend bytes).agenda = s.agenda := rfl
@[simp] theorem State.rxAppend_draws (s : State) (bytes : List Byte) : (s.rxAppend bytes).draws = s.draws := rfl

/-! ### txWrite -/

@[simp] theorem State.txWrite_req (s : State) : (s.txWrite).req = s.req := rfl
@[simp] theorem State.txWrite_rep (s : State) : (s.txWrite).rep = s.rep := rfl
@[simp] theorem State.txWrite_bccLo (s : State) : (s.txWrite).bccLo = s.bccLo := rfl
@[simp] theorem State.txWrite_bccHi (s : State) : (s.txWrite).bccHi = s.bccHi := rfl
@[simp] theorem State.txWrite_phase (s : State) : (s.txWrite).phase = s.phase := rfl
@[simp] theorem State.txWrite_attempt (s : State) : (s.txWrite).attempt = s.attempt := rfl
@[simp] theorem State.txWrite_sent (s : State) : (s.txWrite).sent = s.sent := rfl
@[simp] theorem State.txWrite_validated (s : State) : (s.txWrite).validated = s.validated := rfl
@[simp] theorem State.txWrite_busy (s : State) : (s.txWrite).busy = s.busy := rfl
@[simp] theorem State.txWrite_targetId (s : State) : (s.txWrite).targetId = s.targetId := rfl
@[simp] theorem State.txWrite_dir (s : State) : (s.txWrite).dir = s.dir := rfl
@[simp] theorem State.txWrite_sentCount (s : State) : (s.txWrite).sentCount = s.sentCount := rfl
@[simp] theorem State.txWrite_echoCount (s : State) : (s.txWrite).echoCount = s.echoCount := rfl
@[simp] theorem State.txWrite_rcount (s : State) : (s.txWrite).rcount = s.rcount := rfl
@[simp] theorem State.txWrite_t0 (s : State) : (s.txWrite).t0 = s.t0 := rfl
@[simp] theorem State.txWrite_params (s : State) : (s.txWrite).params = s.params := rfl
@[simp] theorem State.txWrite_rxq (s : State) : (s.txWrite).rxq = s.rxq := rfl
@[simp] theorem State.txWrite_txInFlight (s : State) :
    (s.txWrite).txInFlight = s.txInFlight ++ takenBytes s.txMask s.req.toList 0 := rfl
@[simp] theorem State.txWrite_txFlushed (s : State) : (s.txWrite).txFlushed = false := rfl
@[simp] theorem State.txWrite_txMask (s : State) : (s.txWrite).txMask = s.txMask := rfl
@[simp] theorem State.txWrite_now (s : State) : (s.txWrite).now = s.now := rfl
@[simp] theorem State.txWrite_hostExec (s : State) : (s.txWrite).hostExec = s.hostExec := rfl
@[simp] theorem State.txWrite_codecOut (s : State) : (s.txWrite).codecOut = s.codecOut := rfl
@[simp] theorem State.txWrite_agenda (s : State) : (s.txWrite).agenda = s.agenda := rfl
@[simp] theorem State.txWrite_draws (s : State) : (s.txWrite).draws = s.draws := rfl

/-! ### setMask -/

@[simp] theorem State.setMask_req (s : State) (mask : BitVec 10) : (s.setMask mask).req = s.req := rfl
@[simp] theorem State.setMask_rep (s : State) (mask : BitVec 10) : (s.setMask mask).rep = s.rep := rfl
@[simp] theorem State.setMask_bccLo (s : State) (mask : BitVec 10) : (s.setMask mask).bccLo = s.bccLo := rfl
@[simp] theorem State.setMask_bccHi (s : State) (mask : BitVec 10) : (s.setMask mask).bccHi = s.bccHi := rfl
@[simp] theorem State.setMask_phase (s : State) (mask : BitVec 10) : (s.setMask mask).phase = s.phase := rfl
@[simp] theorem State.setMask_attempt (s : State) (mask : BitVec 10) : (s.setMask mask).attempt = s.attempt := rfl
@[simp] theorem State.setMask_sent (s : State) (mask : BitVec 10) : (s.setMask mask).sent = s.sent := rfl
@[simp] theorem State.setMask_validated (s : State) (mask : BitVec 10) :
    (s.setMask mask).validated = s.validated := rfl
@[simp] theorem State.setMask_busy (s : State) (mask : BitVec 10) : (s.setMask mask).busy = s.busy := rfl
@[simp] theorem State.setMask_targetId (s : State) (mask : BitVec 10) :
    (s.setMask mask).targetId = s.targetId := rfl
@[simp] theorem State.setMask_dir (s : State) (mask : BitVec 10) : (s.setMask mask).dir = s.dir := rfl
@[simp] theorem State.setMask_sentCount (s : State) (mask : BitVec 10) :
    (s.setMask mask).sentCount = s.sentCount := rfl
@[simp] theorem State.setMask_echoCount (s : State) (mask : BitVec 10) :
    (s.setMask mask).echoCount = s.echoCount := rfl
@[simp] theorem State.setMask_rcount (s : State) (mask : BitVec 10) : (s.setMask mask).rcount = s.rcount := rfl
@[simp] theorem State.setMask_t0 (s : State) (mask : BitVec 10) : (s.setMask mask).t0 = s.t0 := rfl
@[simp] theorem State.setMask_params (s : State) (mask : BitVec 10) : (s.setMask mask).params = s.params := rfl
@[simp] theorem State.setMask_rxq (s : State) (mask : BitVec 10) : (s.setMask mask).rxq = s.rxq := rfl
@[simp] theorem State.setMask_txInFlight (s : State) (mask : BitVec 10) :
    (s.setMask mask).txInFlight = s.txInFlight := rfl
@[simp] theorem State.setMask_txFlushed (s : State) (mask : BitVec 10) :
    (s.setMask mask).txFlushed = s.txFlushed := rfl
@[simp] theorem State.setMask_txMask (s : State) (mask : BitVec 10) : (s.setMask mask).txMask = mask := rfl
@[simp] theorem State.setMask_now (s : State) (mask : BitVec 10) : (s.setMask mask).now = s.now := rfl
@[simp] theorem State.setMask_hostExec (s : State) (mask : BitVec 10) :
    (s.setMask mask).hostExec = s.hostExec := rfl
@[simp] theorem State.setMask_codecOut (s : State) (mask : BitVec 10) :
    (s.setMask mask).codecOut = s.codecOut := rfl
@[simp] theorem State.setMask_agenda (s : State) (mask : BitVec 10) : (s.setMask mask).agenda = s.agenda := rfl
@[simp] theorem State.setMask_draws (s : State) (mask : BitVec 10) : (s.setMask mask).draws = s.draws := rfl

/-! ### advance -/

@[simp] theorem State.advance_req (s : State) (ticks : Nat) : (s.advance ticks).req = s.req := rfl
@[simp] theorem State.advance_rep (s : State) (ticks : Nat) : (s.advance ticks).rep = s.rep := rfl
@[simp] theorem State.advance_bccLo (s : State) (ticks : Nat) : (s.advance ticks).bccLo = s.bccLo := rfl
@[simp] theorem State.advance_bccHi (s : State) (ticks : Nat) : (s.advance ticks).bccHi = s.bccHi := rfl
@[simp] theorem State.advance_phase (s : State) (ticks : Nat) : (s.advance ticks).phase = s.phase := rfl
@[simp] theorem State.advance_attempt (s : State) (ticks : Nat) : (s.advance ticks).attempt = s.attempt := rfl
@[simp] theorem State.advance_sent (s : State) (ticks : Nat) : (s.advance ticks).sent = s.sent := rfl
@[simp] theorem State.advance_validated (s : State) (ticks : Nat) : (s.advance ticks).validated = s.validated := rfl
@[simp] theorem State.advance_busy (s : State) (ticks : Nat) : (s.advance ticks).busy = s.busy := rfl
@[simp] theorem State.advance_targetId (s : State) (ticks : Nat) : (s.advance ticks).targetId = s.targetId := rfl
@[simp] theorem State.advance_dir (s : State) (ticks : Nat) : (s.advance ticks).dir = s.dir := rfl
@[simp] theorem State.advance_sentCount (s : State) (ticks : Nat) : (s.advance ticks).sentCount = s.sentCount := rfl
@[simp] theorem State.advance_echoCount (s : State) (ticks : Nat) : (s.advance ticks).echoCount = s.echoCount := rfl
@[simp] theorem State.advance_rcount (s : State) (ticks : Nat) : (s.advance ticks).rcount = s.rcount := rfl
@[simp] theorem State.advance_t0 (s : State) (ticks : Nat) : (s.advance ticks).t0 = s.t0 := rfl
@[simp] theorem State.advance_params (s : State) (ticks : Nat) : (s.advance ticks).params = s.params := rfl
@[simp] theorem State.advance_rxq (s : State) (ticks : Nat) : (s.advance ticks).rxq = s.rxq := rfl
@[simp] theorem State.advance_txInFlight (s : State) (ticks : Nat) :
    (s.advance ticks).txInFlight = s.txInFlight := rfl
@[simp] theorem State.advance_txFlushed (s : State) (ticks : Nat) : (s.advance ticks).txFlushed = s.txFlushed := rfl
@[simp] theorem State.advance_txMask (s : State) (ticks : Nat) : (s.advance ticks).txMask = s.txMask := rfl
@[simp] theorem State.advance_now (s : State) (ticks : Nat) : (s.advance ticks).now = s.now + ticks := rfl
@[simp] theorem State.advance_hostExec (s : State) (ticks : Nat) : (s.advance ticks).hostExec = s.hostExec := rfl
@[simp] theorem State.advance_codecOut (s : State) (ticks : Nat) : (s.advance ticks).codecOut = s.codecOut := rfl
@[simp] theorem State.advance_agenda (s : State) (ticks : Nat) : (s.advance ticks).agenda = s.agenda := rfl
@[simp] theorem State.advance_draws (s : State) (ticks : Nat) : (s.advance ticks).draws = s.draws := rfl

/-! ### acceptExecute -/

@[simp] theorem State.acceptExecute_req (s : State) (p : Payload) :
    (s.acceptExecute p).req = encodeFrame s.params.crcMix3 s.targetId p := rfl
@[simp] theorem State.acceptExecute_rep (s : State) (p : Payload) :
    (s.acceptExecute p).rep = Vector.replicate 8 s.params.clearByte := rfl
@[simp] theorem State.acceptExecute_bccLo (s : State) (p : Payload) :
    (s.acceptExecute p).bccLo = (crcRun s.params.crcMix3 (coveredRequest s.targetId p)).lo := rfl
@[simp] theorem State.acceptExecute_bccHi (s : State) (p : Payload) :
    (s.acceptExecute p).bccHi = (crcRun s.params.crcMix3 (coveredRequest s.targetId p)).hi := rfl
@[simp] theorem State.acceptExecute_phase (s : State) (p : Payload) :
    (s.acceptExecute p).phase = if 0 < s.params.maxAttempts then Phase.drain else Phase.done := rfl
@[simp] theorem State.acceptExecute_attempt (s : State) (p : Payload) : (s.acceptExecute p).attempt = 0 := rfl
@[simp] theorem State.acceptExecute_sent (s : State) (p : Payload) : (s.acceptExecute p).sent = false := rfl
@[simp] theorem State.acceptExecute_validated (s : State) (p : Payload) :
    (s.acceptExecute p).validated = false := rfl
@[simp] theorem State.acceptExecute_busy (s : State) (p : Payload) : (s.acceptExecute p).busy = true := rfl
@[simp] theorem State.acceptExecute_targetId (s : State) (p : Payload) :
    (s.acceptExecute p).targetId = s.targetId := rfl
@[simp] theorem State.acceptExecute_dir (s : State) (p : Payload) : (s.acceptExecute p).dir = s.dir := rfl
@[simp] theorem State.acceptExecute_sentCount (s : State) (p : Payload) :
    (s.acceptExecute p).sentCount = s.sentCount := rfl
@[simp] theorem State.acceptExecute_echoCount (s : State) (p : Payload) :
    (s.acceptExecute p).echoCount = s.echoCount := rfl
@[simp] theorem State.acceptExecute_rcount (s : State) (p : Payload) : (s.acceptExecute p).rcount = 0 := rfl
@[simp] theorem State.acceptExecute_t0 (s : State) (p : Payload) : (s.acceptExecute p).t0 = s.t0 := rfl
@[simp] theorem State.acceptExecute_params (s : State) (p : Payload) : (s.acceptExecute p).params = s.params := rfl
@[simp] theorem State.acceptExecute_rxq (s : State) (p : Payload) : (s.acceptExecute p).rxq = s.rxq := rfl
@[simp] theorem State.acceptExecute_txInFlight (s : State) (p : Payload) :
    (s.acceptExecute p).txInFlight = s.txInFlight := rfl
@[simp] theorem State.acceptExecute_txFlushed (s : State) (p : Payload) :
    (s.acceptExecute p).txFlushed = s.txFlushed := rfl
@[simp] theorem State.acceptExecute_txMask (s : State) (p : Payload) : (s.acceptExecute p).txMask = s.txMask := rfl
@[simp] theorem State.acceptExecute_now (s : State) (p : Payload) : (s.acceptExecute p).now = s.now := rfl
@[simp] theorem State.acceptExecute_hostExec (s : State) (p : Payload) : (s.acceptExecute p).hostExec = none := rfl
@[simp] theorem State.acceptExecute_codecOut (s : State) (p : Payload) :
    (s.acceptExecute p).codecOut = s.codecOut := rfl
@[simp] theorem State.acceptExecute_agenda (s : State) (p : Payload) : (s.acceptExecute p).agenda = s.agenda := rfl
@[simp] theorem State.acceptExecute_draws (s : State) (p : Payload) : (s.acceptExecute p).draws = s.draws := rfl

/-! ### txShift, the fields it leaves -/

@[simp] theorem State.txShift_req (s : State) : s.txShift.req = s.req := by unfold State.txShift; split <;> rfl
@[simp] theorem State.txShift_rep (s : State) : s.txShift.rep = s.rep := by unfold State.txShift; split <;> rfl
@[simp] theorem State.txShift_bccLo (s : State) : s.txShift.bccLo = s.bccLo := by unfold State.txShift; split <;> rfl
@[simp] theorem State.txShift_bccHi (s : State) : s.txShift.bccHi = s.bccHi := by unfold State.txShift; split <;> rfl
@[simp] theorem State.txShift_phase (s : State) : s.txShift.phase = s.phase := by unfold State.txShift; split <;> rfl
@[simp] theorem State.txShift_attempt (s : State) : s.txShift.attempt = s.attempt := by unfold State.txShift; split <;> rfl
@[simp] theorem State.txShift_sent (s : State) : s.txShift.sent = s.sent := by unfold State.txShift; split <;> rfl
@[simp] theorem State.txShift_validated (s : State) : s.txShift.validated = s.validated := by unfold State.txShift; split <;> rfl
@[simp] theorem State.txShift_busy (s : State) : s.txShift.busy = s.busy := by unfold State.txShift; split <;> rfl
@[simp] theorem State.txShift_targetId (s : State) : s.txShift.targetId = s.targetId := by unfold State.txShift; split <;> rfl
@[simp] theorem State.txShift_dir (s : State) : s.txShift.dir = s.dir := by unfold State.txShift; split <;> rfl
@[simp] theorem State.txShift_sentCount (s : State) : s.txShift.sentCount = s.sentCount := by unfold State.txShift; split <;> rfl
@[simp] theorem State.txShift_echoCount (s : State) : s.txShift.echoCount = s.echoCount := by unfold State.txShift; split <;> rfl
@[simp] theorem State.txShift_rcount (s : State) : s.txShift.rcount = s.rcount := by unfold State.txShift; split <;> rfl
@[simp] theorem State.txShift_t0 (s : State) : s.txShift.t0 = s.t0 := by unfold State.txShift; split <;> rfl
@[simp] theorem State.txShift_params (s : State) : s.txShift.params = s.params := by unfold State.txShift; split <;> rfl
@[simp] theorem State.txShift_rxq (s : State) : s.txShift.rxq = s.rxq := by unfold State.txShift; split <;> rfl
@[simp] theorem State.txShift_txMask (s : State) : s.txShift.txMask = s.txMask := by unfold State.txShift; split <;> rfl
@[simp] theorem State.txShift_now (s : State) : s.txShift.now = s.now := by unfold State.txShift; split <;> rfl
@[simp] theorem State.txShift_hostExec (s : State) : s.txShift.hostExec = s.hostExec := by unfold State.txShift; split <;> rfl
@[simp] theorem State.txShift_codecOut (s : State) : s.txShift.codecOut = s.codecOut := by unfold State.txShift; split <;> rfl
@[simp] theorem State.txShift_agenda (s : State) : s.txShift.agenda = s.agenda := by unfold State.txShift; split <;> rfl
@[simp] theorem State.txShift_draws (s : State) : s.txShift.draws = s.draws := by unfold State.txShift; split <;> rfl

/-! ### takeMove, the fields it leaves -/

@[simp] theorem State.takeMove_req (s : State) : s.takeMove.req = s.req := by unfold State.takeMove; split <;> rfl
@[simp] theorem State.takeMove_rep (s : State) : s.takeMove.rep = s.rep := by unfold State.takeMove; split <;> rfl
@[simp] theorem State.takeMove_bccLo (s : State) : s.takeMove.bccLo = s.bccLo := by unfold State.takeMove; split <;> rfl
@[simp] theorem State.takeMove_bccHi (s : State) : s.takeMove.bccHi = s.bccHi := by unfold State.takeMove; split <;> rfl
@[simp] theorem State.takeMove_phase (s : State) : s.takeMove.phase = s.phase := by unfold State.takeMove; split <;> rfl
@[simp] theorem State.takeMove_attempt (s : State) : s.takeMove.attempt = s.attempt := by unfold State.takeMove; split <;> rfl
@[simp] theorem State.takeMove_sent (s : State) : s.takeMove.sent = s.sent := by unfold State.takeMove; split <;> rfl
@[simp] theorem State.takeMove_validated (s : State) : s.takeMove.validated = s.validated := by unfold State.takeMove; split <;> rfl
@[simp] theorem State.takeMove_busy (s : State) : s.takeMove.busy = s.busy := by unfold State.takeMove; split <;> rfl
@[simp] theorem State.takeMove_targetId (s : State) : s.takeMove.targetId = s.targetId := by unfold State.takeMove; split <;> rfl
@[simp] theorem State.takeMove_dir (s : State) : s.takeMove.dir = s.dir := by unfold State.takeMove; split <;> rfl
@[simp] theorem State.takeMove_sentCount (s : State) : s.takeMove.sentCount = s.sentCount := by unfold State.takeMove; split <;> rfl
@[simp] theorem State.takeMove_echoCount (s : State) : s.takeMove.echoCount = s.echoCount := by unfold State.takeMove; split <;> rfl
@[simp] theorem State.takeMove_rcount (s : State) : s.takeMove.rcount = s.rcount := by unfold State.takeMove; split <;> rfl
@[simp] theorem State.takeMove_t0 (s : State) : s.takeMove.t0 = s.t0 := by unfold State.takeMove; split <;> rfl
@[simp] theorem State.takeMove_params (s : State) : s.takeMove.params = s.params := by unfold State.takeMove; split <;> rfl
@[simp] theorem State.takeMove_rxq (s : State) : s.takeMove.rxq = s.rxq := by unfold State.takeMove; split <;> rfl
@[simp] theorem State.takeMove_txInFlight (s : State) : s.takeMove.txInFlight = s.txInFlight := by unfold State.takeMove; split <;> rfl
@[simp] theorem State.takeMove_txFlushed (s : State) : s.takeMove.txFlushed = s.txFlushed := by unfold State.takeMove; split <;> rfl
@[simp] theorem State.takeMove_txMask (s : State) : s.takeMove.txMask = s.txMask := by unfold State.takeMove; split <;> rfl
@[simp] theorem State.takeMove_now (s : State) : s.takeMove.now = s.now := by unfold State.takeMove; split <;> rfl
@[simp] theorem State.takeMove_hostExec (s : State) : s.takeMove.hostExec = s.hostExec := by unfold State.takeMove; split <;> rfl
@[simp] theorem State.takeMove_codecOut (s : State) : s.takeMove.codecOut = s.codecOut := by unfold State.takeMove; split <;> rfl

end Sys2Proof.Machine
end

