-- ==== Sys2Proof/Laws/Ops.lean ====
section
/-! SUPPORT. For each shared operation, once, everything it can do. -/

namespace Sys2Proof.Machine

/-! ### The receive queue -/

@[simp] theorem rxPop_nil (s : State) (h : s.rxq = []) : s.rxPop = .error .emptyPop := by
  simp [State.rxPop, h]

@[simp] theorem rxPop_cons (s : State) (b : Byte) (rest : List Byte) (h : s.rxq = b :: rest) :
    s.rxPop = .ok (b, { s with rxq := rest }) := by
  simp [State.rxPop, h]

/-- Everything `RxPop()` can do. -/
theorem rxPop_cases (s : State) :
    (s.rxq = [] ∧ s.rxPop = .error .emptyPop) ∨
      ∃ b rest, s.rxq = b :: rest ∧ s.rxPop = .ok (b, { s with rxq := rest }) := by
  cases h : s.rxq with
  | nil => exact .inl ⟨rfl, rxPop_nil s h⟩
  | cons b rest => exact .inr ⟨b, rest, rfl, rxPop_cons s b rest h⟩

/-- A pop succeeds exactly where a byte is available (92_eei_decisions.md D20). -/
theorem rxPop_isOk_iff_rxAvail (s : State) : (∃ r, s.rxPop = .ok r) ↔ 0 < s.rxAvail := by
  rcases rxPop_cases s with ⟨h, e⟩ | ⟨b, rest, h, e⟩ <;> simp [State.rxAvail, h, e]

/-! ### The transmit path -/

/-- The bytes taken are never more than the bytes offered. -/
theorem takenBytes_length_le (mask : BitVec 10) (bytes : List Byte) (i : Nat) :
    (takenBytes mask bytes i).length ≤ bytes.length := by
  induction bytes generalizing i with
  | nil => simp [takenBytes]
  | cons b bs ih =>
    have := ih (i + 1)
    simp only [takenBytes]
    split <;> simp <;> omega

/-- Every byte taken is one of those offered. -/
theorem takenBytes_sublist (mask : BitVec 10) (bytes : List Byte) (i : Nat) :
    (takenBytes mask bytes i).Sublist bytes := by
  induction bytes generalizing i with
  | nil => simp [takenBytes]
  | cons b bs ih =>
    simp only [takenBytes]
    split
    · exact (ih (i + 1)).cons_cons b
    · exact (ih (i + 1)).cons b

/-- How many bytes are taken depends on the mask and on how many are offered, not on what they are. -/
theorem takenBytes_length_congr (mask : BitVec 10) (xs ys : List Byte) (i : Nat) (h : xs.length = ys.length) :
    (takenBytes mask xs i).length = (takenBytes mask ys i).length := by
  induction xs generalizing ys i with
  | nil =>
    have : ys = [] := List.length_eq_zero_iff.mp h.symm
    simp [this]
  | cons x xs ih =>
    cases ys with
    | nil => simp at h
    | cons y ys =>
      have := ih ys (i + 1) (by simpa using h)
      simp only [takenBytes]
      split <;> simp [this]

/-- `TxWrite` returns a count from 0 to 10 (20_memory.md R47). -/
theorem txCount_le (s : State) : s.txCount ≤ 10 := by
  simpa [State.txCount] using takenBytes_length_le s.txMask s.req.toList 0

/-- Everything a shift of the transmit path can do. -/
theorem txShift_cases (s : State) :
    (s.txInFlight = [] ∧ s.txShift = { s with txFlushed := true }) ∨
      ∃ b rest, s.txInFlight = b :: rest ∧
        s.txShift = { s with txInFlight := rest, txFlushed := s.txFlushed || rest.isEmpty } := by
  cases h : s.txInFlight with
  | nil => exact .inl ⟨rfl, by simp [State.txShift, h]⟩
  | cons b rest => exact .inr ⟨b, rest, rfl, by simp [State.txShift, h]⟩

/-! ### The echo count -/

/-- From ECHO on, and at `IDLE`, the register is the count of the current attempt. -/
@[simp] theorem echoDiscarded_of_not_beforeEcho (s : State) (h : Phase.beforeEcho s.phase = false) :
    s.echoDiscarded = s.echoCount := by simp [State.echoDiscarded, h]

/-- Before the echo phase of an attempt nothing of its echo is discarded. -/
@[simp] theorem echoDiscarded_of_beforeEcho (s : State) (h : Phase.beforeEcho s.phase = true) :
    s.echoDiscarded = 0 := by simp [State.echoDiscarded, h]

/-- The bound on the register outside FLUSH bounds the count of the current attempt in every phase. -/
theorem echoDiscarded_le_sentCount (s : State) (h : s.phase ≠ Phase.flush → s.echoCount ≤ s.sentCount) :
    s.echoDiscarded ≤ s.sentCount := by
  unfold State.echoDiscarded
  split
  · exact Nat.zero_le _
  · next hb => exact h fun e => hb (by rw [e]; decide)

/-! ### The reply buffer -/

/-- A cleared reply buffer reads `CLEAR_BYTE` everywhere. -/
@[simp] theorem clearRep_getElem (s : State) (k : Nat) (h : k < 8) : s.clearRep.rep[k] = s.params.clearByte := by
  simp

/-- Storing a byte: the byte at `RCOUNT`, every other byte as before. -/
theorem storeRep_getElem (s : State) (b : Byte) (k : Nat) (h : k < 8) :
    (s.storeRep b).rep[k] = if s.rcount = k then b else s.rep[k] := by
  simp [Vector.getElem_setIfInBounds, eq_comm]

/-! ### The checksum unit -/

/-- The result output after an evaluation is the checksum of its bytes (40_crc.md R87). -/
@[simp] theorem crcResult_crcUnit (s : State) (bytes : List Byte) :
    (s.crcUnit bytes).crcResult = crcWord (crcRun s.params.crcMix3 bytes) := rfl

/-- No evaluation depends on what an earlier one left (10_state.md R12). -/
theorem crcUnit_forgets (s : State) (lo hi : Byte) (bytes : List Byte) :
    ({ s with bccLo := lo, bccHi := hi }.crcUnit bytes) = s.crcUnit bytes := rfl

/-! ### Whose move it is -/

@[simp] theorem nextMove_cons (s : State) (m : Move) (rest : List Move) (h : s.agenda = m :: rest) :
    s.nextMove = m := by simp [State.nextMove, h]

@[simp] theorem takeMove_cons (s : State) (m : Move) (rest : List Move) (h : s.agenda = m :: rest) :
    s.takeMove = { s with agenda := rest } := by simp [State.takeMove, h]

/-- Taking a move off leaves what selects the sequencer's operation. -/
@[simp] theorem fetchTurn_takeMove (s : State) : s.takeMove.fetchTurn = s.fetchTurn := by
  simp [State.fetchTurn]

end Sys2Proof.Machine
end

