-- ==== Sys2Proof/Laws/Meanings.lean ====
section
/-! SUPPORT. Everything each micro-operation can do, so that no later proof unfolds a meaning. -/

namespace Sys2Proof.Machine

/-- START, and an unused code: an EXECUTE is accepted, or nothing happens. -/
theorem execStart_cases (s t : State) (h : execStart s = .next t) :
    (s.hostExec = none ∧ t = s) ∨ ∃ p, s.hostExec = some p ∧ t = s.acceptExecute p := by
  simp only [execStart, Host.Outcome.next.injEq] at h
  split at h
  · exact .inr ⟨_, ‹_›, h.symm⟩
  · exact .inl ⟨‹_›, h.symm⟩

theorem execDrain_cases (s t : State) (h : execDrain s = .next t) :
    (∃ b rest, s.rxq = b :: rest ∧ t = { s with rxq := rest }) ∨
      (s.rxq = [] ∧ t = ((s.setDir .transmit).stampT0).goto Phase.settle) := by
  rcases rxPop_cases s with ⟨hq, e⟩ | ⟨b, rest, hq, e⟩ <;> simp only [execDrain, e] at h <;> cases h
  · exact .inr ⟨hq, rfl⟩
  · exact .inl ⟨b, rest, hq, rfl⟩

theorem execSettle_cases (s t : State) (h : execSettle s = .next t) :
    (s.settleOver = true ∧ t = s.goto Phase.write) ∨ (s.settleOver = false ∧ t = s) := by
  simp only [execSettle] at h
  split at h <;> cases h
  · exact .inl ⟨‹_›, rfl⟩
  · exact .inr ⟨by simpa using ‹¬s.settleOver = true›, rfl⟩

theorem execWrite_cases (s t : State) (h : execWrite s = .next t) :
    t = { s.txWrite with sentCount := s.txCount }.goto Phase.flush := by
  simpa [execWrite] using h.symm

theorem execFlush_cases (s t : State) (h : execFlush s = .next t) :
    (s.txFlushed = true ∧ t = { (s.setDir .receive).stampT0 with echoCount := 0 }.goto Phase.echo) ∨
      (s.txFlushed = false ∧ t = s) := by
  simp only [execFlush] at h
  split at h <;> cases h
  · exact .inl ⟨‹_›, rfl⟩
  · exact .inr ⟨by simpa using ‹¬s.txFlushed = true›, rfl⟩

theorem execEcho_cases (s t : State) (h : execEcho s = .next t) :
    (s.echoOver = true ∧ s.wroteFull = true ∧ t = { s.stampT0 with sent := true, rcount := 0 }.goto Phase.read) ∨
    (s.echoOver = true ∧ s.wroteFull = false ∧ t = s.goto Phase.retry) ∨
    (s.echoOver = false ∧ ∃ b rest, s.rxq = b :: rest ∧ t = { s with rxq := rest, echoCount := s.echoCount + 1 }) ∨
    (s.echoOver = false ∧ s.rxq = [] ∧ t = s) := by
  simp only [execEcho] at h
  split at h
  · next ho =>
    split at h <;> cases h
    · exact .inl ⟨ho, ‹_›, rfl⟩
    · exact .inr (.inl ⟨ho, by simpa using ‹¬s.wroteFull = true›, rfl⟩)
  · next ho =>
    have ho : s.echoOver = false := by simpa using ho
    rcases rxPop_cases s with ⟨hq, e⟩ | ⟨b, rest, hq, e⟩ <;> rw [e] at h <;> cases h
    · exact .inr (.inr (.inr ⟨ho, hq, rfl⟩))
    · exact .inr (.inr (.inl ⟨ho, b, rest, hq, rfl⟩))

theorem execRead_cases (s t : State) (h : execRead s = .next t) :
    (s.readOver = true ∧ t = s.goto Phase.check) ∨
    (s.readOver = false ∧ ∃ b rest, s.rxq = b :: rest ∧ t = ({ s with rxq := rest } : State).storeRep b) ∨
    (s.readOver = false ∧ s.rxq = [] ∧ t = s) := by
  simp only [execRead] at h
  split at h
  · next ho => cases h; exact .inl ⟨ho, rfl⟩
  · next ho =>
    have ho : s.readOver = false := by simpa using ho
    rcases rxPop_cases s with ⟨hq, e⟩ | ⟨b, rest, hq, e⟩ <;> rw [e] at h <;> cases h
    · exact .inr (.inr ⟨ho, hq, rfl⟩)
    · exact .inr (.inl ⟨ho, b, rest, hq, rfl⟩)

theorem execCheck_cases (s t : State) (h : execCheck s = .next t) :
    (s.replyGood = true ∧ s.rcount = 8 ∧
      t = { s.crcUnit (s.rep.toList.take 6) with validated := true }.goto Phase.done) ∨
    (s.replyGood = false ∧ s.rcount = 8 ∧ t = (s.crcUnit (s.rep.toList.take 6)).goto Phase.retry) ∨
    (s.replyGood = false ∧ s.rcount ≠ 8 ∧ t = s.goto Phase.retry) := by
  simp only [execCheck] at h
  split at h
  · next h8 =>
    split at h <;> cases h
    · exact .inl ⟨by simp_all [State.replyGood], h8, rfl⟩
    · exact .inr (.inl ⟨by simp_all [State.replyGood], h8, rfl⟩)
  · next h8 => cases h; exact .inr (.inr ⟨by simp [State.replyGood, h8], h8, rfl⟩)

theorem execRetry_cases (s t : State) (h : execRetry s = .next t) :
    (s.attempt + 1 < s.params.maxAttempts ∧
      t = { s.clearRep with attempt := s.attempt + 1, rcount := 0 }.goto Phase.drain) ∨
    (s.params.maxAttempts ≤ s.attempt + 1 ∧
      t = { s.clearRep with attempt := s.attempt + 1, rcount := 0 }.goto Phase.done) := by
  simp only [execRetry, State.returnFromRetry] at h
  cases h
  rcases Nat.lt_or_ge (s.attempt + 1) s.params.maxAttempts with hm | hm
  · exact .inl ⟨hm, congrArg (State.goto _) (if_pos hm)⟩
  · exact .inr ⟨hm, congrArg (State.goto _) (if_neg (Nat.not_lt.mpr hm))⟩

theorem execDone_cases (s t : State) (h : execDone s = .next t) :
    (s.validated = true ∧ t = { s with busy := false }.goto Phase.idle) ∨
      (s.validated = false ∧ t = { s.clearRep with busy := false }.goto Phase.idle) := by
  simp only [execDone] at h
  cases h
  by_cases hv : s.validated = true
  · exact .inl ⟨hv, by rw [if_pos hv]⟩
  · exact .inr ⟨by simpa using hv, by rw [if_neg hv]⟩

/-- The acceptance of an EXECUTE leads to the first attempt, or with no attempt allowed to the end. -/
theorem acceptExecute_phase_cases (s : State) (p : Payload) :
    (0 < s.params.maxAttempts ∧ (s.acceptExecute p).phase = Phase.drain) ∨
      (s.params.maxAttempts = 0 ∧ (s.acceptExecute p).phase = Phase.done) := by
  rcases Nat.eq_zero_or_pos s.params.maxAttempts with hm | hm
  · exact .inr ⟨hm, if_neg (by omega)⟩
  · exact .inl ⟨hm, if_pos hm⟩

end Sys2Proof.Machine
end

