-- ==== Sys2Proof/Laws/PerInstr.lean ====
section
/-! SUPPORT. One lemma per constructor of `Instr` for each statement made of every instruction. -/

namespace Sys2Proof.Laws.RoundTrip

/-- Decoding the encoding of a well-formed operation gives it back, operands and all. -/
def Statement (i : Instr) : Prop := i.WellFormed → decode (encode i) = .ok i

theorem req10 (t a b c d e f g x y : Byte) : Statement (.req10 t a b c d e f g x y) := fun _ => rfl

theorem rep8 (a b c d e f x y : Byte) : Statement (.rep8 a b c d e f x y) := fun _ => rfl

theorem crc16 (bytes : List Byte) (offset count : Nat) : Statement (.crc16 bytes offset count) := by
  intro h
  have : offset + count ≤ bytes.length := by simpa [Instr.WellFormed, Instr.wellFormed] using h
  simp [Sys2Proof.encode, decode, decodeExternal, this]

theorem encode (t a b c d e f g : Byte) : Statement (.encode t a b c d e f g) := fun _ => rfl

theorem validate (a b c d e f x y : Byte) : Statement (.validate a b c d e f x y) := fun _ => rfl

theorem execute (a b c d e f g : Byte) : Statement (.execute a b c d e f g) := fun _ => rfl

theorem settid (v : Byte) : Statement (.settid v) := fun _ => rfl

theorem start : Statement (.start) := fun _ => rfl

theorem drain : Statement (.drain) := fun _ => rfl

theorem settle : Statement (.settle) := fun _ => rfl

theorem write : Statement (.write) := fun _ => rfl

theorem flush : Statement (.flush) := fun _ => rfl

theorem echo : Statement (.echo) := fun _ => rfl

theorem read : Statement (.read) := fun _ => rfl

theorem check : Statement (.check) := fun _ => rfl

theorem retry : Statement (.retry) := fun _ => rfl

theorem done : Statement (.done) := fun _ => rfl

theorem unused (code : BitVec 4) : Statement (.unused code) := by
  revert code
  unfold Statement
  decide

end Sys2Proof.Laws.RoundTrip
end

