-- ==== Sys2Proof/Laws/Step.lean ====
section
/-! SUPPORT. What a step can do, said once: the inversion of the fetch, of the dispatch and of the step. -/

namespace Sys2Proof.Machine

/-! ### The dispatch, arm by arm -/

@[simp] theorem exec_start (s : State) : exec .start s = execStart s := rfl
@[simp] theorem exec_drain (s : State) : exec .drain s = execDrain s := rfl
@[simp] theorem exec_settle (s : State) : exec .settle s = execSettle s := rfl
@[simp] theorem exec_write (s : State) : exec .write s = execWrite s := rfl
@[simp] theorem exec_flush (s : State) : exec .flush s = execFlush s := rfl
@[simp] theorem exec_echo (s : State) : exec .echo s = execEcho s := rfl
@[simp] theorem exec_read (s : State) : exec .read s = execRead s := rfl
@[simp] theorem exec_check (s : State) : exec .check s = execCheck s := rfl
@[simp] theorem exec_retry (s : State) : exec .retry s = execRetry s := rfl
@[simp] theorem exec_done (s : State) : exec .done s = execDone s := rfl
@[simp] theorem exec_unused (code : BitVec 4) (s : State) : exec (.unused code) s = execUnused s := rfl
@[simp] theorem exec_settid (v : Byte) (s : State) : exec (.settid v) s = execSettid v s := rfl

/-! ### The fetch -/

/-- What is fetched, and from whose move. -/
theorem fetch_cases (s : State) (w : InstrWord) (h : s.fetch = some w) :
    (s.nextMove = .turn ∧ w = s.fetchTurn) ∨ ∃ o, s.nextMove = .operation o ∧ w = .external o := by
  unfold State.fetch at h
  split at h
  · exact .inl ⟨‹_›, by simpa using h.symm⟩
  · exact .inr ⟨_, ‹_›, by simpa using h.symm⟩
  · cases h

/-- At a sequencer turn: the `PHASE` code, or the EXECUTE that is met outside `IDLE`. -/
theorem fetchTurn_cases (s : State) :
    s.fetchTurn = .phase s.phase ∨
      ∃ p : Payload, s.hostExec = some p ∧ Phase.actsAsIdle s.phase = false ∧
        s.fetchTurn = .external ⟨.execute, p.toList⟩ := by
  unfold State.fetchTurn
  split
  next p hp =>
    split
    · exact .inl rfl
    next h => exact .inr ⟨p, hp, by simpa using h, rfl⟩
  · exact .inl rfl

/-- A fetched `PHASE` word is the code in `PHASE`. -/
theorem fetch_phase (s : State) (code : BitVec 4) (h : s.fetch = some (.phase code)) : code = s.phase := by
  rcases fetch_cases s _ h with ⟨_, e⟩ | ⟨o, _, e⟩
  · rcases fetchTurn_cases s with e' | ⟨p, _, _, e'⟩
    · rw [e'] at e; simpa using e
    · rw [e'] at e; simp at e
  · simp at e

/-- Everything a named operation that answers a next state can do: an EXECUTE accepted at `IDLE`, a SETTID, or an
operation that touches only the checksum unit, the presented result and the receive queue. -/
theorem decodeExternal_exec_cases (o : OpWord) (i : Instr) (s t : State)
    (hd : decodeExternal o.sel o.bytes = .ok i) (h : exec i s = .next t) :
    (∃ p, Phase.actsAsIdle s.phase = true ∧ t = s.acceptExecute p) ∨
    (∃ v, o = ⟨.settid, [v]⟩ ∧ t = { s with targetId := v }) ∨
    (∃ lo hi out q, t = { s with bccLo := lo, bccHi := hi, codecOut := out, rxq := s.rxq ++ q }) := by
  have unit : ∀ (u : State) (bs : List Byte) (out : CodecOut),
      ∃ lo hi out' q, { u.crcUnit bs with codecOut := out } =
        { u with bccLo := lo, bccHi := hi, codecOut := out', rxq := u.rxq ++ q } :=
    fun u bs out =>
      ⟨(crcRun u.params.crcMix3 bs).lo, (crcRun u.params.crcMix3 bs).hi, out, [], by simp [State.crcUnit]⟩
  obtain ⟨sel, bytes⟩ := o
  cases sel <;> simp only [decodeExternal] at hd <;> split at hd <;> cases hd
  · simp only [exec, execReq10, Host.Outcome.next.injEq] at h
    exact .inr (.inr ⟨s.bccLo, s.bccHi, s.codecOut, _, h.symm⟩)
  · simp only [exec, execRep8, Host.Outcome.next.injEq] at h
    exact .inr (.inr ⟨s.bccLo, s.bccHi, s.codecOut, _, h.symm⟩)
  · simp only [exec, execCrc16] at h
    rw [if_pos ‹_›] at h
    cases h
    exact .inr (.inr (unit _ _ _))
  · simp only [exec, execEncode, Host.Outcome.next.injEq] at h
    cases h
    exact .inr (.inr (unit _ _ _))
  · simp only [exec, execValidate, Host.Outcome.next.injEq] at h
    cases h
    exact .inr (.inr (unit _ _ _))
  · simp only [exec, execExecute] at h
    split at h <;> cases h
    exact .inl ⟨_, ‹_›, rfl⟩
  · simp only [exec, execSettid, Host.Outcome.next.injEq] at h
    exact .inr (.inl ⟨_, rfl, h.symm⟩)

/-- The ten codes and the rest: which micro-operation a code selects. -/
theorem decodePhase_cases (p : BitVec 4) :
    (Phase.actsAsIdle p = true ∧ (decodePhase p = .start ∨ decodePhase p = .unused p)) ∨
    (p = Phase.drain ∧ decodePhase p = .drain) ∨ (p = Phase.settle ∧ decodePhase p = .settle) ∨
    (p = Phase.write ∧ decodePhase p = .write) ∨ (p = Phase.flush ∧ decodePhase p = .flush) ∨
    (p = Phase.echo ∧ decodePhase p = .echo) ∨ (p = Phase.read ∧ decodePhase p = .read) ∨
    (p = Phase.check ∧ decodePhase p = .check) ∨ (p = Phase.retry ∧ decodePhase p = .retry) ∨
    (p = Phase.done ∧ decodePhase p = .done) := by
  revert p; decide

/-- Everything a step that answers a next state can do. -/
theorem step_next_cases (s t : State) (h : step s = .next t) :
    (s.fetch = none ∧ t = environmentMove s.nextMove s.takeMove) ∨
    (∃ p, Phase.actsAsIdle s.phase = true ∧ t = s.takeMove.acceptExecute p) ∨
    (∃ v, s.fetch = some (.external ⟨.settid, [v]⟩) ∧ t = { s.takeMove with targetId := v }) ∨
    (∃ o, s.fetch = some (.external o) ∧ ∃ lo hi out q,
      t = { s.takeMove with bccLo := lo, bccHi := hi, codecOut := out, rxq := s.takeMove.rxq ++ q }) ∨
    (s.fetch = some (.phase s.phase) ∧
      ((Phase.actsAsIdle s.phase = true ∧ t = s.takeMove) ∨
       (s.phase = Phase.drain ∧ execDrain s.takeMove = .next t) ∨
       (s.phase = Phase.settle ∧ execSettle s.takeMove = .next t) ∨
       (s.phase = Phase.write ∧ execWrite s.takeMove = .next t) ∨
       (s.phase = Phase.flush ∧ execFlush s.takeMove = .next t) ∨
       (s.phase = Phase.echo ∧ execEcho s.takeMove = .next t) ∨
       (s.phase = Phase.read ∧ execRead s.takeMove = .next t) ∨
       (s.phase = Phase.check ∧ execCheck s.takeMove = .next t) ∨
       (s.phase = Phase.retry ∧ execRetry s.takeMove = .next t) ∨
       (s.phase = Phase.done ∧ execDone s.takeMove = .next t))) := by
  unfold step at h
  split at h
  case h_2 hf => exact .inl ⟨hf, by simpa using h.symm⟩
  case h_1 w hf =>
    split at h
    case h_2 => cases h
    case h_1 i hd =>
      cases w with
      | external o =>
        rcases decodeExternal_exec_cases o i s.takeMove t hd h with ⟨p, hp, e⟩ | ⟨v, rfl, e⟩ | ⟨lo, hi, out, q, e⟩
        · exact .inr (.inl ⟨p, by simpa using hp, e⟩)
        · exact .inr (.inr (.inl ⟨v, hf, e⟩))
        · exact .inr (.inr (.inr (.inl ⟨o, hf, lo, hi, out, q, e⟩)))
      | phase code =>
        obtain rfl := fetch_phase s code hf
        simp only [decode, Except.ok.injEq] at hd
        subst hd
        rcases decodePhase_cases s.phase with ⟨hi, e⟩ | hcases
        · have hidle : execStart s.takeMove = .next t := by
            rcases e with e | e <;> simpa [e, execUnused, execStart] using h
          simp only [execStart, Host.Outcome.next.injEq] at hidle
          split at hidle
          · exact .inr (.inl ⟨_, hi, hidle.symm⟩)
          · exact .inr (.inr (.inr (.inr ⟨hf, .inl ⟨hi, hidle.symm⟩⟩)))
        · refine .inr (.inr (.inr (.inr ⟨hf, .inr ?_⟩)))
          rcases hcases with ⟨e, d⟩ | ⟨e, d⟩ | ⟨e, d⟩ | ⟨e, d⟩ | ⟨e, d⟩ | ⟨e, d⟩ | ⟨e, d⟩ | ⟨e, d⟩ | ⟨e, d⟩ <;>
            simp [d] at h <;> simp [e, h]

end Sys2Proof.Machine
end

