-- ==== Sys2Proof/Tests/Slice0.lean ====
section
/-! SUPPORT. Tests. Expected values are those of spec/95_test_vectors.md (V, S and L rows, derived there from the rules;
never run on a device) or written out by hand from 30_encoding.md. Below them, for each statement with hypotheses, a
state that meets them, at the boundary values of each clause. -/

namespace Sys2Proof.Tests

-- Only for compiling: so many kernel evaluations at once exhaust the threads.
set_option Elab.async false

open Sys2Proof.Machine Sys2Proof.Safety
open Sys2Proof.Config (CrcMix3)

/-! ### Helpers -/

/-- The parameters of the single-step vectors (95_test_vectors.md section 4). -/
def sampleParams : Config.Params := ⟨.shr3, 3, 2, 20, 30, 0x00⟩

/-- The reset state with those parameters and `TARGET_ID = 02`: no field is a free value. -/
def sample : State := { State.reset with params := sampleParams, targetId := 0x02 }

/-- `sample` inside a transaction, in phase `p`, with a sequencer turn listed next. -/
def running (p : BitVec 4) : State :=
  { sample with
    phase := p, busy := true, agenda := [.turn]
    dir := if Phase.transmitting p then .transmit else .receive }

/-- The answered next state seen through `f`. -/
def after {α : Type} (f : State → α) : Host.Outcome State Fault Refusal → Option α
  | .next t => some (f t)
  | .fault _ => none
  | .refused _ => none

/-- Whether a step was refused, and why. -/
def refusal : Host.Outcome State Fault Refusal → Option Refusal
  | .next _ => none
  | .fault _ => none
  | .refused r => some r

/-- The clauses of `Inv` as one check. -/
def legal (s : State) : Bool :=
  decide (s.phase.toNat ≤ 9) && decide (s.busy = true ↔ s.phase ≠ Phase.idle)
    && decide (s.dir = .transmit ↔ Phase.transmitting s.phase = true)
    && decide (s.validated = true → s.sent = true)
    && decide (Phase.inAttempt s.phase = true → s.validated = false)
    && decide (s.validated = true → s.rcount = 8 ∧ validateFrame s.params.crcMix3 s.rep = true)
    && decide (s.rcount ≤ 8) && decide (s.sentCount ≤ 10) && decide (s.echoCount ≤ 10)
    && decide (s.phase ≠ Phase.flush → s.echoCount ≤ s.sentCount)
    && decide (Phase.beforeRead s.phase = true ∨ s.phase = Phase.read →
      ∀ k : Fin 8, s.rcount ≤ k.val → s.rep[k] = s.params.clearByte)
    && decide (Phase.beforeRead s.phase = true → s.rcount = 0)
    && decide (s.phase = Phase.read ∨ s.phase = Phase.check → s.sent = true ∧ s.sentCount = 10)
    && decide (s.phase = Phase.check → s.rcount = 8 ∨ s.params.tReply ≤ s.now - s.t0)
    && decide (Phase.inAttempt s.phase = true → s.attempt < s.params.maxAttempts)
    && decide (s.attempt ≤ s.params.maxAttempts)
    && decide (s.phase = Phase.write → s.params.tSettle ≤ s.now - s.t0)
    && decide (s.t0 ≤ s.now)
    && decide (s.phase = Phase.done ∨ s.phase = Phase.idle → s.validated = false →
      ∀ k : Fin 8, s.rep[k] = s.params.clearByte)
    && decide (s.echoDiscarded ≤ s.sentCount)

theorem inv_of_legal (s : State) (h : legal s = true) : Inv s := by
  simp only [legal, Bool.and_eq_true, decide_eq_true_eq] at h
  obtain ⟨⟨⟨⟨⟨⟨⟨⟨⟨⟨⟨⟨⟨⟨⟨⟨⟨⟨⟨a, b⟩, c⟩, d⟩, e⟩, f⟩, g⟩, h⟩, i⟩, j⟩, k⟩, l⟩, m⟩, n⟩, o⟩, p⟩, q⟩, r⟩, t⟩, u⟩ := h
  exact ⟨a, b, c, d, e, f, g, h, i, j, fun x y z => k x ⟨y, z⟩, l, m, n, o, p, q, r, fun x y z w => t x y ⟨z, w⟩, u⟩

/-- Whether `p` holds of the first state and of each state that `n` steps lead through. -/
def alongCheck (p : State → Bool) : Nat → State → Bool
  | 0, s => p s
  | n + 1, s => p s && (match step s with
    | .next t => alongCheck p n t
    | .fault _ => false
    | .refused _ => false)

theorem allAlong_of_check (p : State → Bool) (n : Nat) (s : State) (h : alongCheck p n s = true) :
    AllAlong (fun u => p u = true) n s := by
  induction n generalizing s with
  | zero => exact h
  | succ n ih =>
    simp only [alongCheck, Bool.and_eq_true] at h
    obtain ⟨h1, h2⟩ := h
    split at h2
    · exact ⟨h1, _, ‹_›, ih _ h2⟩
    · cases h2
    · cases h2

theorem allAlong_busy_of_check (n : Nat) (s : State) (h : alongCheck State.busy n s = true) :
    AllAlong (fun u => u.busy = true) n s := allAlong_of_check State.busy n s h

/-- A step that answers a next state does so. -/
theorem step_next_of_after {s : State} (h : (after (fun _ => ()) (step s)).isSome = true) : ∃ t, step s = .next t := by
  unfold after at h
  split at h
  · exact ⟨_, ‹_›⟩
  · cases h
  · cases h

/-! ### WellFormed: each check refuses an ill-formed term (R80, R67) -/

theorem test_wf_crc16_beyond_the_bytes : ¬ (Instr.crc16 [0x01, 0x02] 1 2).WellFormed := by decide
theorem test_wf_crc16_to_the_end : (Instr.crc16 [0x01, 0x02] 1 1).WellFormed := by decide
theorem test_wf_unused_rejects_done_code : ¬ (Instr.unused 0x9).WellFormed := by decide
theorem test_wf_unused_takes_first_unused_code : (Instr.unused 0xA).WellFormed := by decide

/-! ### Decode: words written out from 30_encoding.md (R60, R61, R66, R67, R69) -/

theorem test_decode_req10 : decode (.external ⟨.req10, [0x02, 0x32, 0, 0, 0, 0, 0, 0, 0x01, 0xDB]⟩)
    = .ok (.req10 0x02 0x32 0 0 0 0 0 0 0x01 0xDB) := by decide
theorem test_decode_rep8 : decode (.external ⟨.rep8, [0x00, 0x06, 0, 0, 0, 0, 0x31, 0xEA]⟩)
    = .ok (.rep8 0x00 0x06 0 0 0 0 0x31 0xEA) := by decide
theorem test_decode_crc16 : decode (.external ⟨.crc16 0 2, [0x02, 0x32]⟩) = .ok (.crc16 [0x02, 0x32] 0 2) := by decide
theorem test_decode_encode : decode (.external ⟨.encode, [0x10, 1, 2, 3, 4, 5, 6, 7]⟩)
    = .ok (.encode 0x10 1 2 3 4 5 6 7) := by decide
theorem test_decode_validate : decode (.external ⟨.validate, [1, 2, 3, 4, 5, 6, 0x88, 0x5C]⟩)
    = .ok (.validate 1 2 3 4 5 6 0x88 0x5C) := by decide
theorem test_decode_execute : decode (.external ⟨.execute, [0x3B, 1, 0, 0, 0, 0, 7]⟩)
    = .ok (.execute 0x3B 1 0 0 0 0 7) := by decide
theorem test_decode_settid : decode (.external ⟨.settid, [0x03]⟩) = .ok (.settid 0x03) := by decide
theorem test_decode_phases :
    [0x0, 0x1, 0x2, 0x3, 0x4, 0x5, 0x6, 0x7, 0x8, 0x9, 0xA].map (fun c : BitVec 4 => (decode (.phase c)).toOption) =
      [some .start, some .drain, some .settle, some .write, some .flush, some .echo, some .read, some .check,
        some .retry, some .done, some (.unused 0xA)] := by decide
theorem test_decode_refuses_a_short_execute :
    decode (.external ⟨.execute, [0x3B, 1, 0, 0, 0, 0]⟩) = .error .operandLength := by decide

/-- Table words, byte 0 in the highest bits (R60, R61 and the table's masks; log 17). -/
theorem test_table_encode :
    decodeTableWord 80 0x100102030405_0607CFBF = some (.encode 0x10 1 2 3 4 5 6 7) := by decide +kernel
theorem test_table_rep8 : decodeTableWord 64 0x010203040506885C = some (.rep8 1 2 3 4 5 6 0x88 0x5C) := by decide +kernel
theorem test_table_crc16 : (match decodeTableWord 16 0x96D8 with
    | some (.crc16 bytes 0 2) => crc16 .shr3 bytes 0 2
    | _ => 0) = 0x96D8 := by decide +kernel

/-! ### The checksum: V2 rows -/

theorem test_crc_shr3 :
    [[], [0x00], [0xFF], [0x0F], [0x80], [0x02, 0x32], [1, 2, 3, 4, 5, 6]].map
      (fun bs : List Byte => crc16 .shr3 bs 0 bs.length) =
      [0x0000, 0xF001, 0xFF00, 0x0811, 0x7419, 0x96D8, 0x5C88] := by decide +kernel
theorem test_crc_shl3 :
    [[], [0x00], [0xFF], [0x0F], [0x80], [0x02, 0x32], [1, 2, 3, 4, 5, 6]].map
      (fun bs : List Byte => crc16 .shl3 bs 0 bs.length) =
      [0x0000, 0xF078, 0xFF00, 0x088F, 0x7470, 0x2E66, 0xB80E] := by decide +kernel

/-- Step trace T1, first row, with both directions of the 3-bit shift. -/
theorem test_crc_byte_step :
    crcByte .shr3 crcSeed 0x02 = ⟨0xF8, 0x2C⟩ ∧ crcByte .shl3 crcSeed 0x02 = ⟨0x95, 0x2C⟩ := by decide

/-- V2.23, the check value of CRC-16/X-25, for the reference of R92. -/
theorem test_x25_check_value : x25 [0x31, 0x32, 0x33, 0x34, 0x35, 0x36, 0x37, 0x38, 0x39] = 0x906E := by decide +kernel

/-! ### One step of each operation -/

/-- V2.11, with bytes outside the covered range on both sides. -/
theorem test_crc16_covers_its_range :
    after (·.codecOut) (exec (.crc16 [0xAA, 0x02, 0x32, 0xBB] 1 2) sample) = some (.word 0x96D8) := by decide +kernel
theorem test_crc16_beyond_is_refused :
    refusal (exec (.crc16 [0x02, 0x32] 1 2) sample) = some .crcOperandRange := by decide +kernel

/-- V3.3, the source's example (L1.2). -/
theorem test_encode_shr3 : after (·.codecOut) (exec (.encode 0x02 0x32 0 0 0 0 0 0) sample)
    = some (.frame #v[0x02, 0x32, 0, 0, 0, 0, 0, 0, 0x01, 0xDB]) := by decide +kernel
theorem test_encode_shl3 :
    after (·.codecOut) (exec (.encode 0x10 1 2 3 4 5 6 7) { sample with params := { sampleParams with crcMix3 := .shl3 } })
      = some (.frame #v[0x10, 1, 2, 3, 4, 5, 6, 7, 0x7A, 0x39]) := by decide +kernel

/-- V3.10; V3.12, the row with the checksum bytes swapped. -/
theorem test_validate_accepts :
    after (·.codecOut) (exec (.validate 1 2 3 4 5 6 0x88 0x5C) sample) = some (.verdict true) := by decide +kernel
theorem test_validate_rejects_swapped :
    after (·.codecOut) (exec (.validate 0x00 0x06 0 0 0 0 0xEA 0x31) sample) = some (.verdict false) := by decide +kernel

theorem test_req10_is_received_in_order :
    after (·.rxq) (exec (.req10 0x02 0x32 0 0 0 0 0 0 0x01 0xDB) { sample with rxq := [0x77] })
      = some [0x77, 0x02, 0x32, 0, 0, 0, 0, 0, 0, 0x01, 0xDB] := by decide +kernel
theorem test_rep8_is_received_in_order :
    after (·.rxq) (exec (.rep8 1 2 3 4 5 6 0x88 0x5C) sample) = some [1, 2, 3, 4, 5, 6, 0x88, 0x5C] := by decide +kernel

/-- S3: refused; and accepted at `IDLE`. -/
theorem test_execute_busy_is_refused :
    refusal (exec (.execute 0x32 0 0 0 0 0 0) (running Phase.read)) = some .executeWhileBusy := by decide +kernel
theorem test_execute_idle_builds_the_request :
    after (fun t => (t.req, t.phase)) (exec (.execute 0x32 0 0 0 0 0 0) sample)
      = some (#v[0x02, 0x32, 0, 0, 0, 0, 0, 0, 0x01, 0xDB], Phase.drain) := by decide +kernel

/-- S4. -/
theorem test_settid_while_busy :
    after (fun t => (t.targetId, t.req[0], t.phase))
      (exec (.settid 0x03) { running Phase.read with req := Vector.replicate 10 0x02 })
      = some (0x03, 0x02, Phase.read) := by decide +kernel

/-- S1; S2. -/
theorem test_start_clears_and_builds :
    after (fun t => (t.validated, t.rep[7], t.attempt, t.phase, t.req[9]))
      (exec .start { sample with
        sent := true, validated := true, rep := Vector.replicate 8 0x09, attempt := 2
        hostExec := some #v[0x32, 0, 0, 0, 0, 0, 0] })
      = some (false, 0x00, 0, Phase.drain, 0xDB) := by decide +kernel
theorem test_start_without_attempts :
    after (·.phase) (exec .start { sample with
      params := { sampleParams with maxAttempts := 0 }, hostExec := some #v[0x32, 0, 0, 0, 0, 0, 0] })
      = some Phase.done := by decide +kernel

/-- S5; S6. -/
theorem test_drain_discards_the_oldest :
    after (fun t => (t.rxq, t.phase, t.dir)) (exec .drain { running Phase.drain with rxq := [0xAA, 0x55] })
      = some ([0x55], Phase.drain, .receive) := by decide +kernel
theorem test_drain_switches_when_empty :
    after (fun t => (t.dir, t.t0, t.phase)) (exec .drain { running Phase.drain with now := 100 })
      = some (.transmit, 100, Phase.settle) := by decide +kernel

/-- S7; S8. -/
theorem test_settle_holds :
    after (·.phase) (exec .settle { running Phase.settle with t0 := 100, now := 101 }) = some Phase.settle := by
  decide +kernel
theorem test_settle_ends :
    after (·.phase) (exec .settle { running Phase.settle with t0 := 100, now := 102 }) = some Phase.write := by
  decide +kernel

/-- S10; S11, with a mask of four bytes. -/
theorem test_write_whole :
    after (fun t => (t.sentCount, t.phase, t.dir)) (exec .write (running Phase.write))
      = some (10, Phase.flush, .transmit) := by decide +kernel
theorem test_write_short :
    after (fun t => (t.sentCount, t.phase, t.txFlushed)) (exec .write { running Phase.write with txMask := 0x293 })
      = some (5, Phase.flush, false) := by decide +kernel

/-- S12; S13. -/
theorem test_flush_waits :
    after (fun t => (t.phase, t.dir)) (exec .flush { running Phase.flush with txFlushed := false })
      = some (Phase.flush, .transmit) := by decide +kernel
theorem test_flush_releases :
    after (fun t => (t.dir, t.t0, t.echoCount, t.phase))
      (exec .flush { running Phase.flush with echoCount := 7, now := 110 })
      = some (.receive, 110, 0, Phase.echo) := by decide +kernel

/-- R21: in the state of S13 the register is of an earlier attempt; of the current one nothing is discarded yet. -/
theorem test_flush_has_discarded_nothing :
    ({ running Phase.flush with echoCount := 7 } : State).echoDiscarded = 0 ∧
    ({ running Phase.echo with echoCount := 7 } : State).echoDiscarded = 7 := by decide

/-- S17; S20. -/
theorem test_echo_window_before_the_queue :
    after (fun t => (t.rxq, t.sent, t.t0, t.phase))
      (exec .echo { running Phase.echo with sentCount := 10, echoCount := 9, t0 := 110, now := 130, rxq := [0xDB] })
      = some ([0xDB], true, 130, Phase.read) := by decide +kernel
theorem test_echo_short_write_keeps_sent :
    after (fun t => (t.sent, t.t0, t.phase))
      (exec .echo { running Phase.echo with sentCount := 7, echoCount := 2, sent := true, now := 20 })
      = some (true, 0, Phase.retry) := by decide +kernel

/-- S25; S24. -/
theorem test_read_stores_the_eighth :
    after (fun t => (t.rep[7], t.rcount, t.phase))
      (exec .read { running Phase.read with rcount := 7, t0 := 121, now := 150, rxq := [0xEA] })
      = some (0xEA, 8, Phase.read) := by decide +kernel
theorem test_read_deadline_before_the_queue :
    after (fun t => (t.rxq, t.rcount, t.phase))
      (exec .read { running Phase.read with rcount := 7, t0 := 121, now := 151, rxq := [0xEA] })
      = some ([0xEA], 7, Phase.check) := by decide +kernel

/-- S26; S27. -/
theorem test_check_accepts :
    after (fun t => (t.validated, t.phase))
      (exec .check { running Phase.check with rcount := 8, rep := #v[0x00, 0x06, 0, 0, 0, 0, 0x31, 0xEA] })
      = some (true, Phase.done) := by decide +kernel
theorem test_check_rejects :
    after (fun t => (t.validated, t.phase))
      (exec .check { running Phase.check with rcount := 8, rep := #v[0x00, 0x07, 0, 0, 0, 0, 0x31, 0xEA] })
      = some (false, Phase.retry) := by decide +kernel

/-- S30; S31. -/
theorem test_retry_goes_on :
    after (fun t => (t.attempt, t.rep[0], t.rcount, t.phase))
      (exec .retry { running Phase.retry with rcount := 5, rep := #v[0xDE, 0xAD, 0xBE, 0xEF, 0x01, 0, 0, 0] })
      = some (1, 0x00, 0, Phase.drain) := by decide +kernel
theorem test_retry_gives_up :
    after (fun t => (t.attempt, t.phase)) (exec .retry { running Phase.retry with attempt := 2 })
      = some (3, Phase.done) := by decide +kernel

/-- S32; S33. -/
theorem test_done_keeps_a_valid_reply :
    (after (·.outcome) (exec .done { running Phase.done with
      sent := true, validated := true, rep := #v[0x00, 0x06, 0, 0, 0, 0, 0x31, 0xEA] }))
      = some (some ⟨true, true, some [0x00, 0x06, 0, 0, 0, 0]⟩) := by decide +kernel
theorem test_done_hides_a_failed_one :
    (after (fun t => (t.outcome, t.phase)) (exec .done { running Phase.done with sent := true }))
      = some (some ⟨true, false, none⟩, Phase.idle) := by decide +kernel

/-- R67: an unused code acts as `IDLE` does. -/
theorem test_unused_accepts_execute :
    after (·.phase) (exec (.unused 0xC) { sample with phase := 0xC, hostExec := some #v[0x32, 0, 0, 0, 0, 0, 0] })
      = some Phase.drain := by decide +kernel

/-- The table's word for `SETTLE`, run as the first instruction after reset. -/
theorem test_first_instruction_runs :
    after (·.phase) (step (State.reset.withFetchWord 8 0x01)) = some Phase.settle := by decide +kernel

/-! ### The hypotheses of the statements are met -/

theorem witness_StepRunsTheDecodedInstruction :
    (running Phase.echo).fetch = some (.phase Phase.echo) ∧ decode (.phase Phase.echo) = .ok .echo ∧
    ({ sample with agenda := [.operation ⟨.settid, [0x03]⟩, .turn] } : State).agenda
      = .operation ⟨.settid, [0x03]⟩ :: [.turn] ∧
    decode (.external ⟨.settid, [0x03]⟩) = .ok (.settid 0x03) := by decide

theorem witness_SequencerTurnRunsThePhaseCode :
    (running Phase.read).agenda = .turn :: [] ∧ (running Phase.read).hostExec = none ∧
    ({ sample with agenda := [.turn] } : State).agenda = .turn :: [] ∧ sample.phase = Phase.idle ∧
    ∀ p ∈ [Phase.drain, Phase.done],
      let s : State := { running p with hostExec := some (Vector.replicate 7 0x00) }
      s.agenda = .turn :: [] ∧ s.hostExec = some (Vector.replicate 7 0x00) ∧ s.phase ≠ Phase.idle ∧
        s.phase.toNat ≤ 9 := by decide

theorem witness_EnvironmentMovesTouchNoRegister :
    ({ sample with agenda := [.receive []] } : State).agenda = .receive [] :: [] ∧
    ({ sample with agenda := [.advance 0] } : State).agenda = .advance 0 :: [] ∧
    ({ sample with agenda := [.accept 0x000] } : State).agenda = .accept 0x000 :: [] ∧
    (let s : State := { sample with agenda := [.transmit], txInFlight := [0x02], txFlushed := false }
     s.agenda = .transmit :: [] ∧ s.txInFlight = 0x02 :: [] ∧ s.txFlushed = false) ∧
    (let s : State := { sample with agenda := [.transmit] }
     s.agenda = .transmit :: [] ∧ s.txInFlight = []) := by decide

theorem witness_RefusalsAreTheCallersFault :
    (∀ p ∈ [Phase.drain, Phase.done],
      refusal (step { running p with hostExec := some (Vector.replicate 7 0x00) }) = some .executeWhileBusy) ∧
    refusal (step { sample with agenda := [.operation ⟨.crc16 0 3, [0x02, 0x32]⟩] })
      = some (.noSuchOperation .crcRange) := by decide +kernel

theorem witness_EverySequencerTurnCompletes :
    ((running Phase.done).agenda = .turn :: [] ∧ (running Phase.done).hostExec = none) ∧
    (let s : State := { sample with agenda := [.turn], hostExec := some (Vector.replicate 7 0x00) }
     s.agenda = .turn :: [] ∧ s.phase = Phase.idle) ∧
    ∀ p ∈ [(0xA : BitVec 4), 0xF],
      let s : State := { sample with agenda := [.turn], phase := p, hostExec := some (Vector.replicate 7 0x00) }
      s.agenda = .turn :: [] ∧ 0xA ≤ s.phase.toNat := by decide

theorem witness_PhaseCodesSelectTheMicroOperations :
    0xA ≤ (0xA : BitVec 4).toNat ∧ 0xA ≤ (0xF : BitVec 4).toNat := by decide

theorem witness_DecodeAndEncodeAreInverse :
    decode (.external ⟨.crc16 1 1, [0x02, 0x32]⟩) = .ok (.crc16 [0x02, 0x32] 1 1) ∧
    (Instr.unused 0xF).WellFormed ∧ encode (.unused 0xF) = .phase 0xF := by decide

theorem witness_ChecksumSeedsAreFixed :
    ({ sample with hostExec := some (Vector.replicate 7 0xFF) } : State).hostExec ≠ none ∧
    ({ running Phase.check with rcount := 8 } : State).rcount = 8 := by decide

theorem witness_ChecksumBitEquations : ∃ a b : CrcMix3, a = .shr3 ∧ b = .shl3 := ⟨_, _, rfl, rfl⟩

theorem witness_OneByteChangeIsDetected : (0x00 : Byte) ≠ 0x80 := by decide

theorem witness_ChecksumIsAffine :
    ([] : List Byte).length = ([] : List Byte).length ∧ [(0x01 : Byte), 0x02].length = [(0x03 : Byte), 0xFF].length := by
  decide

theorem witness_Crc16PresentsTheChecksum :
    1 + 1 ≤ [(0x02 : Byte), 0x32].length ∧ [(0x02 : Byte), 0x32].length < 1 + 2 := by decide

/-- V3.7, at the first and the last byte. -/
theorem witness_TamperedReplyIsRejected :
    let rep : RepFrame := #v[0x00, 0x06, 0, 0, 0, 0, 0x31, 0xEA]
    validateFrame .shr3 rep = true ∧ (0x80 : Byte) ≠ rep[(0 : Fin 8)] ∧ (0xEB : Byte) ≠ rep[(7 : Fin 8)] := by
  decide +kernel

theorem witness_StartOpensTheTransaction :
    sample.hostExec = none ∧
    ({ sample with hostExec := some (Vector.replicate 7 0xFF) } : State).hostExec = some (Vector.replicate 7 0xFF) := by
  decide

theorem witness_ExecuteIsAcceptedOnlyAtIdle :
    sample.phase = Phase.idle ∧ ∀ p ∈ [Phase.drain, Phase.done],
      1 ≤ (running p).phase.toNat ∧ (running p).phase.toNat ≤ 9 := by decide

theorem witness_DrainDiscardsThenSwitches :
    ({ running Phase.drain with rxq := [0xAA] } : State).rxq = 0xAA :: [] ∧ (running Phase.drain).rxq = [] := by decide

/-- S8 and S7: the first tick at which the delay is over, and the last before it. -/
theorem witness_SettleHoldsForItsDelay :
    (let s : State := { running Phase.settle with t0 := 100, now := 102 }
     s.t0 ≤ s.now ∧ s.t0 + s.params.tSettle ≤ s.now) ∧
    (let s : State := { running Phase.settle with t0 := 100, now := 101 }
     s.t0 ≤ s.now ∧ s.now < s.t0 + s.params.tSettle) := by decide

theorem witness_WriteHandsOverTheRequest : 0 ≤ 10 ∧ 10 ≤ 10 ∧ (running Phase.echo).sentCount = 0 := by decide

theorem witness_FlushWaitsWithoutDeadline :
    ({ running Phase.flush with txFlushed := false } : State).txFlushed = false ∧
    Inv (running Phase.flush) ∧ (running Phase.flush).phase = Phase.flush :=
  ⟨by decide, inv_of_legal _ (by decide +kernel), by decide⟩

theorem witness_FlushReleasesTheLine : (running Phase.flush).txFlushed = true := by decide

theorem witness_EchoDiscardsOneByte :
    let s : State := { running Phase.echo with sentCount := 10, echoCount := 9, t0 := 110, now := 129, rxq := [0x00] }
    s.echoCount < s.sentCount ∧ s.now - s.t0 < s.params.tEcho ∧ s.rxq = 0x00 :: [] := by decide

theorem witness_EchoWaitsForBytes :
    let s : State := { running Phase.echo with sentCount := 1, t0 := 110, now := 129 }
    s.echoCount < s.sentCount ∧ s.now - s.t0 < s.params.tEcho ∧ s.rxq = [] := by decide

/-- S16 by count, S17 by window. -/
theorem witness_EchoEndsByCountOrWindow :
    (let s : State := { running Phase.echo with sentCount := 10, echoCount := 10 }
     s.sentCount ≤ s.echoCount) ∧
    (let s : State := { running Phase.echo with sentCount := 9, echoCount := 8, t0 := 110, now := 130 }
     s.params.tEcho ≤ s.now - s.t0) := by decide

theorem witness_DrainAndEchoIgnoreByteValues :
    [(0xFF : Byte), 0x00].length = ({ running Phase.echo with rxq := [0x12, 0x34] } : State).rxq.length ∧
    ([] : List Byte).length = (running Phase.drain).rxq.length := by decide

/-- S25: the last free index, the last tick before the deadline. -/
theorem witness_ReadStoresOneByte :
    let s : State := { running Phase.read with rcount := 7, t0 := 121, now := 150, rxq := [0xEA] }
    s.rcount < 8 ∧ s.now - s.t0 < s.params.tReply ∧ s.rxq = 0xEA :: [] := by decide

theorem witness_ReadWaitsForBytes :
    let s : State := { running Phase.read with rcount := 7, t0 := 121, now := 150 }
    s.rcount ≠ 8 ∧ s.now - s.t0 < s.params.tReply ∧ s.rxq = [] := by decide

/-- S23 by count, S24 by deadline. -/
theorem witness_ReadEndsByCountOrDeadline :
    ({ running Phase.read with rcount := 8 } : State).rcount = 8 ∧
    (let s : State := { running Phase.read with rcount := 7, t0 := 121, now := 151 }
     s.params.tReply ≤ s.now - s.t0) := by decide

/-- S29, S26 and S27. -/
theorem witness_CheckJudgesLengthThenChecksum :
    ({ running Phase.check with rcount := 7 } : State).rcount ≠ 8 ∧
    (let rep : RepFrame := #v[0x00, 0x06, 0, 0, 0, 0, 0x31, 0xEA]
     rep[7].toNat * 256 + rep[6].toNat = (crc16 .shr3 rep.toList 0 6).toNat) ∧
    (let rep : RepFrame := #v[0x00, 0x06, 0, 0, 0, 0, 0x30, 0xEA]
     rep[7].toNat * 256 + rep[6].toNat ≠ (crc16 .shr3 rep.toList 0 6).toNat) := by decide +kernel

/-- A finished state with a valid reply. -/
def finished (p : BitVec 4) : State :=
  { sample with
    phase := p, busy := decide (p ≠ Phase.idle), agenda := [.turn], sent := true, validated := true
    rep := #v[0x00, 0x06, 0, 0, 0, 0, 0x31, 0xEA], rcount := 8, sentCount := 10 }

theorem witness_DoneEndsTheTransaction :
    (running Phase.done).validated = false ∧ (finished Phase.done).validated = true ∧
    Inv (running Phase.done) ∧ (running Phase.done).phase = Phase.done ∧ sample.hostExec = none ∧
    (finished Phase.idle).phase = Phase.idle ∧ after (·.phase) (step (finished Phase.idle)) = some Phase.idle :=
  ⟨by decide, by decide, inv_of_legal _ (by decide +kernel), by decide, by decide, by decide, by decide +kernel⟩

theorem witness_PayloadIsTheFirstSixBytes :
    (finished Phase.idle).busy = false ∧ (finished Phase.idle).validated = true := by decide

theorem witness_OutcomeHidesWhatDidNotValidate :
    (running Phase.read).busy = true ∧ sample.busy = false ∧ sample.outcome = some ⟨false, false, none⟩ ∧ Inv (finished Phase.idle) ∧
    (finished Phase.idle).outcome = some ⟨true, true, some [0x00, 0x06, 0, 0, 0, 0]⟩ :=
  ⟨by decide, by decide, by decide +kernel, inv_of_legal _ (by decide +kernel), by decide +kernel⟩

theorem witness_FlagsStayClearUntilTheFirstStart :
    let s : State := { sample with agenda := [.turn] }
    s.phase = Phase.idle ∧ s.sent = false ∧ s.validated = false ∧ ∃ t, step s = .next t :=
  ⟨by decide, by decide, by decide, step_next_of_after (by decide +kernel)⟩

theorem witness_StepKeepsTheInvariant :
    Inv (running Phase.drain) ∧ ∃ t, step (running Phase.drain) = .next t :=
  ⟨inv_of_legal _ (by decide +kernel), step_next_of_after (by decide +kernel)⟩

/-- At WRITE with the echo count of an earlier attempt (as in S13) and a write that takes nothing. -/
theorem witness_EchoCountNeverExceedsSentCount :
    let s : State := { running Phase.write with echoCount := 7, sentCount := 7, attempt := 1, now := 2, txMask := 0x000 }
    Inv s ∧ s.echoCount ≤ s.sentCount ∧ ∃ t, step s = .next t :=
  ⟨inv_of_legal _ (by decide +kernel), by decide, step_next_of_after (by decide +kernel)⟩

theorem witness_PhaseFollowsItsSuccessors :
    (running Phase.drain).fetch = some (.phase (running Phase.drain).phase) ∧
    after (fun t => decide (t.phase ≠ Phase.drain)) (step (running Phase.drain)) = some true ∧
    after (fun t => decide (t.phase ≠ Phase.idle))
      (step { sample with agenda := [.operation ⟨.execute, [0x32, 0, 0, 0, 0, 0, 0]⟩] }) = some true := by
  decide +kernel

theorem witness_RequestIsFixedWhileBusy :
    Inv (running Phase.done) ∧ (running Phase.done).busy = true ∧ ∃ t, step (running Phase.done) = .next t :=
  ⟨inv_of_legal _ (by decide +kernel), by decide, step_next_of_after (by decide +kernel)⟩

theorem witness_OnlySettidChangesTheTarget :
    after (·.targetId) (step { sample with agenda := [.operation ⟨.settid, [0x43]⟩] }) = some 0x43 := by decide +kernel

/-- S6 and S13. -/
theorem witness_LineSwitchesOnlyInDrainAndFlush :
    (running Phase.drain).dir = .receive ∧ after (·.dir) (step (running Phase.drain)) = some .transmit ∧
    (running Phase.flush).dir = .transmit ∧ after (·.dir) (step (running Phase.flush)) = some .receive := by
  decide +kernel

theorem witness_SentIsStickyWithinATransaction :
    let s : State := { finished Phase.idle with agenda := [.operation ⟨.execute, [0x32, 0, 0, 0, 0, 0, 0]⟩] }
    Inv s ∧ s.sent = true ∧ after (·.sent) (step s) = some false :=
  ⟨inv_of_legal _ (by decide +kernel), by decide, by decide +kernel⟩

theorem witness_ClockIsMonotoneAndParametersAreConstant :
    after (·.now) (step { running Phase.flush with agenda := [.advance 3], now := 2 }) = some 5 := by decide +kernel

/-- S20's E1 with E2 beside it, S28's E3, S31's E5, each in a legal state at a turn that completes. -/
theorem witness_FailurePathFollowsTheErrorClasses :
    let e : State := { running Phase.echo with sentCount := 7, echoCount := 2, now := 20 }
    let c : State := { running Phase.check with sent := true, sentCount := 10, rcount := 7, now := 30 }
    let r : State := { running Phase.retry with attempt := 2 }
    (Inv e ∧ e.errorClasses = [.echoOverrun 2, .writeShort 7] ∧ e.fetch = some (.phase e.phase) ∧
      ∃ t, step e = .next t) ∧
    (Inv c ∧ c.errorClasses = [.replyTimeout 7] ∧ c.fetch = some (.phase c.phase) ∧ ∃ t, step c = .next t) ∧
    (Inv r ∧ r.errorClasses = [.attemptsExhausted] ∧ r.fetch = some (.phase r.phase) ∧ ∃ t, step r = .next t) :=
  ⟨⟨inv_of_legal _ (by decide +kernel), by decide +kernel, by decide, step_next_of_after (by decide +kernel)⟩,
    ⟨inv_of_legal _ (by decide +kernel), by decide +kernel, by decide, step_next_of_after (by decide +kernel)⟩,
    ⟨inv_of_legal _ (by decide +kernel), by decide +kernel, by decide, step_next_of_after (by decide +kernel)⟩⟩

/-- The first attempt of a budget of one, with no time to wait anywhere. -/
def lastChance (moves : List Move) : State :=
  { running Phase.drain with params := ⟨.shr3, 1, 0, 0, 5, 0x00⟩, agenda := moves }

/-- A write that takes nothing: the attempt fails, and with it the transaction. -/
def failingRun : State :=
  { lastChance [.turn, .turn, .turn, .transmit, .turn, .turn, .turn] with txMask := 0x000 }

/-- A whole write, then the valid reply V3.7. -/
def validRun : State :=
  lastChance (List.replicate 3 Move.turn ++ (List.replicate 10 Move.transmit ++ (List.replicate 2 Move.turn ++
    (Move.receive [0x00, 0x06, 0, 0, 0, 0, 0x31, 0xEA] :: List.replicate 10 Move.turn))))

theorem witness_AttemptBudgetIsRespected_without_a_reply :
    Inv failingRun ∧ failingRun.phase = Phase.drain ∧ failingRun.attempt = 0 ∧
      AllAlong (fun u => u.busy = true) 7 failingRun ∧
      (run 7 failingRun).map (fun t => (t.phase, t.validated)) = some (Phase.done, false) :=
  ⟨inv_of_legal _ (by decide +kernel), by decide, by decide,
    allAlong_busy_of_check 7 failingRun (by decide +kernel), by decide +kernel⟩

theorem witness_AttemptBudgetIsRespected_with_a_reply :
    Inv validRun ∧ validRun.phase = Phase.drain ∧ validRun.attempt = 0 ∧
      AllAlong (fun u => u.busy = true) 26 validRun ∧
      (run 26 validRun).map (fun t => (t.phase, t.validated)) = some (Phase.done, true) :=
  ⟨inv_of_legal _ (by decide +kernel), by decide, by decide,
    allAlong_busy_of_check 26 validRun (by decide +kernel), by decide +kernel⟩

/-- READ entered with the whole of V3.7 in the queue. -/
def readingRun : State :=
  { running Phase.read with
    sent := true, sentCount := 10, rxq := [0x00, 0x06, 0, 0, 0, 0, 0x31, 0xEA], agenda := List.replicate 8 Move.turn }

/-- No step and all eight storing steps. -/
theorem witness_ReplyBufferHoldsOnlyWhatThisAttemptRead :
    Inv readingRun ∧ readingRun.phase = Phase.read ∧ readingRun.rcount = 0 ∧
      AllAlong (fun u => u.phase = Phase.read) 0 readingRun ∧ AllAlong (fun u => u.phase = Phase.read) 8 readingRun ∧
      (run 8 readingRun).map (·.rcount) = some 8 := by
  have along := allAlong_of_check (fun u => decide (u.phase = Phase.read)) 8 readingRun (by decide +kernel)
  exact ⟨inv_of_legal _ (by decide +kernel), by decide, by decide,
    (by decide : readingRun.phase = Phase.read), by simpa only [decide_eq_true_eq] using along, by decide +kernel⟩

end Sys2Proof.Tests
end

section
/-! The codings between frame bytes and words (30_encoding.md R62, R63, R64): O18, O19, O45. -/

namespace Sys2Proof.Machine

open Sys2Proof.Config (CrcMix3)

/-! ### Words and their bytes -/

/-- R6: the value of the word `{h, l}`. -/
theorem packWord_toNat (h l : Byte) : (packWord h l).toNat = h.toNat * 256 + l.toNat := by
  have high : (h.setWidth 16 <<< 8 : Word16).toNat = h.toNat <<< 8 := by
    simp [Nat.shiftLeft_eq]; omega
  have low : (l.setWidth 16).toNat = l.toNat := by simp; omega
  rw [packWord, BitVec.toNat_or, high, low, ← Nat.shiftLeft_add_eq_or_of_lt l.isLt, Nat.shiftLeft_eq]

/-- R62: the byte of the lower frame index is `C[7:0]`. -/
theorem crcLoByte_eq_extractLsb' (c : Word16) : crcLoByte c = c.extractLsb' 0 8 := by
  ext i hi
  simp [crcLoByte]

/-- R62: the byte of the higher frame index is `C[15:8]`. -/
theorem crcHiByte_eq_extractLsb' (c : Word16) : crcHiByte c = c.extractLsb' 8 8 := by
  ext i hi
  simp [crcHiByte]

/-- R87: the low byte of the result word. -/
@[simp] theorem crcLoByte_crcWord (acc : CrcAcc) : crcLoByte (crcWord acc) = ~~~acc.lo :=
  crcLoByte_packWord _ _

/-- R87: the high byte of the result word. -/
@[simp] theorem crcHiByte_crcWord (acc : CrcAcc) : crcHiByte (crcWord acc) = ~~~acc.hi :=
  crcHiByte_packWord _ _

/-! ### The range a checksum covers -/

/-- R80: from index 0, over as many bytes as there are, every byte is covered. -/
theorem crc16_whole (mix : CrcMix3) (bytes : List Byte) :
    crc16 mix bytes 0 bytes.length = crcWord (crcRun mix bytes) := by
  simp [crc16, crcCovered]

/-- R80: from index 0 the checksum sees the first `count` bytes only. -/
theorem crc16_take (mix : CrcMix3) (bytes : List Byte) (count : Nat) :
    crc16 mix (bytes.take count) 0 count = crc16 mix bytes 0 count := by
  simp [crc16, crcCovered, List.take_take]

/-- R100: the eight covered bytes of a request. -/
theorem length_coveredRequest (tid : Byte) (p : Payload) : (coveredRequest tid p).length = 8 := by
  simp [coveredRequest]

/-- R100: the checksum of a request is the complement of the accumulators over all it covers. -/
theorem crc16_coveredRequest (mix : CrcMix3) (tid : Byte) (p : Payload) :
    crc16 mix (coveredRequest tid p) 0 8 = crcWord (crcRun mix (coveredRequest tid p)) := by
  rw [← length_coveredRequest tid p]
  exact crc16_whole mix _

/-! ### The frames -/

/-- R60, R100: byte 8 of a request frame. -/
@[simp] theorem encodeFrame_getElem_eight (mix : CrcMix3) (tid : Byte) (p : Payload) :
    (encodeFrame mix tid p)[8] = crcLoByte (crc16 mix (coveredRequest tid p) 0 8) := rfl

/-- R60, R100: byte 9 of a request frame. -/
@[simp] theorem encodeFrame_getElem_nine (mix : CrcMix3) (tid : Byte) (p : Payload) :
    (encodeFrame mix tid p)[9] = crcHiByte (crc16 mix (coveredRequest tid p) 0 8) := rfl

/-- R61, R64: the payload of a reply, byte by byte in index order. -/
theorem replyPayload_eq (rep : RepFrame) :
    replyPayload rep = [rep[0], rep[1], rep[2], rep[3], rep[4], rep[5]] := by
  apply List.ext_getElem
  · simp [replyPayload]
  · intro i _ hi
    simp only [replyPayload, List.getElem_take, Vector.getElem_toList]
    match i, hi with
    | 0, _ | 1, _ | 2, _ | 3, _ | 4, _ | 5, _ => rfl

/-- R63: the value of the received word. -/
theorem receivedWord_toNat (lo hi : Byte) : (receivedWord lo hi).toNat = hi.toNat * 256 + lo.toNat :=
  packWord_toNat hi lo

/-- R101: the received word is compared with the checksum of the payload. -/
theorem validateFrame_iff (mix : CrcMix3) (rep : RepFrame) :
    validateFrame mix rep = true ↔ receivedWord rep[6] rep[7] = crc16 mix (replyPayload rep) 0 6 := by
  simp [validateFrame, replyPayload, crc16_take]

/-- R146: what the host reads after a transaction that validated. -/
theorem outcome_of_validated (s : State) (idle : s.busy = false) (valid : s.validated = true) :
    s.outcome = some ⟨s.sent, true, some (replyPayload s.rep)⟩ := by
  simp [State.outcome, idle, valid]

/-! ### The obligations -/

/-- Settles O18: both bytes are slices of the checksum, and the checksum packs the complements of the accumulators. -/
theorem requestChecksumBytes : Obligations.RequestChecksumBytes := by
  intro mix tid p
  have packed := crc16_coveredRequest mix tid p
  refine ⟨crcLoByte_eq_extractLsb' _, crcHiByte_eq_extractLsb' _, ?_, ?_⟩
  · rw [encodeFrame_getElem_eight, packed, crcLoByte_crcWord, coveredRequest]
  · rw [encodeFrame_getElem_nine, packed, crcHiByte_crcWord, coveredRequest]

/-- Settles O19: the value of a packed word, and R101's comparison of words read as one of values. -/
theorem receivedChecksumWord : Obligations.ReceivedChecksumWord := by
  intro mix rep
  refine ⟨receivedWord_toNat rep[6] rep[7], ?_⟩
  rw [validateFrame_iff, ← BitVec.toNat_inj, receivedWord_toNat, replyPayload_eq]

/-- Settles O45: the outcome hands over `replyPayload`, which is the first six bytes of `REP`. -/
theorem payloadIsTheFirstSixBytes : Obligations.PayloadIsTheFirstSixBytes := by
  intro s idle valid
  exact ⟨_, outcome_of_validated s idle valid, congrArg some (replyPayload_eq s.rep)⟩

end Sys2Proof.Machine
end

section
/-! The checksum's seed and its result word (40_crc.md R81, R87): O12, O10. -/

namespace Sys2Proof.Machine

open Sys2Proof.Config (CrcMix3)

/-! ### The result word -/

/-- R87: the value of the result word. -/
theorem crcWord_toNat (acc : CrcAcc) :
    (crcWord acc).toNat = (~~~acc.hi).toNat * 256 + (~~~acc.lo).toNat :=
  packWord_toNat _ _

/-- R80, R87: the checksum is the result word of the run over the covered bytes. -/
theorem crc16_eq_crcWord (mix : CrcMix3) (bytes : List Byte) (offset count : Nat) :
    crc16 mix bytes offset count = crcWord (crcRun mix ((bytes.drop offset).take count)) := rfl

/-! ### What the evaluating operations do -/

/-- R80: within the operand requirement the checksum unit runs over the covered bytes. -/
theorem exec_crc16_of_le (s : State) (bytes : List Byte) (offset count : Nat)
    (inRange : offset + count ≤ bytes.length) :
    exec (.crc16 bytes offset count) s = .next { s.crcUnit (crcCovered bytes offset count) with
      codecOut := .word (crc16 s.params.crcMix3 bytes offset count) } :=
  if_pos inRange

/-- R80: outside the operand requirement there is no meaning. -/
theorem exec_crc16_of_not_le (s : State) (bytes : List Byte) (offset count : Nat)
    (outOfRange : ¬ offset + count ≤ bytes.length) :
    exec (.crc16 bytes offset count) s = .refused .crcOperandRange :=
  if_neg outOfRange

/-- R100: the checksum unit runs over the covered request. -/
theorem exec_encode (s : State) (t a b c d e f g : Byte) :
    exec (.encode t a b c d e f g) s = .next { s.crcUnit (coveredRequest t #v[a, b, c, d, e, f, g]) with
      codecOut := .frame (encodeFrame s.params.crcMix3 t #v[a, b, c, d, e, f, g]) } := rfl

/-- R101: the checksum unit runs over the first six bytes. -/
theorem exec_validate (s : State) (a b c d e f x y : Byte) :
    exec (.validate a b c d e f x y) s = .next { s.crcUnit [a, b, c, d, e, f] with
      codecOut := .verdict (validateFrame s.params.crcMix3 #v[a, b, c, d, e, f, x, y]) } := rfl

/-- R132: START with an EXECUTE on the port accepts it. -/
theorem execStart_of_hostExec (s : State) (p : Payload) (presented : s.hostExec = some p) :
    execStart s = .next (s.acceptExecute p) := by
  simp only [execStart, presented]

/-- R143: with eight bytes collected the checksum unit runs over the payload, and its verdict selects the way on. -/
theorem execCheck_of_full (s : State) (full : s.rcount = 8) :
    execCheck s = .next (if validateFrame s.params.crcMix3 s.rep
      then { s.crcUnit (replyPayload s.rep) with validated := true }.goto Phase.done
      else (s.crcUnit (replyPayload s.rep)).raise .replyMalformed) :=
  congrArg Host.Outcome.next (if_pos full)

/-! ### Nothing carries over from an earlier evaluation -/

/-- R81, R132: the acceptance of an EXECUTE evaluates the request's checksum from the seed. -/
theorem acceptExecute_forgets (s : State) (lo hi : Byte) (p : Payload) :
    ({ s with bccLo := lo, bccHi := hi } : State).acceptExecute p = s.acceptExecute p := rfl

theorem exec_crc16_forgets (s : State) (lo hi : Byte) (bytes : List Byte) (offset count : Nat) :
    exec (.crc16 bytes offset count) { s with bccLo := lo, bccHi := hi } = exec (.crc16 bytes offset count) s := by
  by_cases inRange : offset + count ≤ bytes.length
  · rw [exec_crc16_of_le _ _ _ _ inRange, exec_crc16_of_le _ _ _ _ inRange, crcUnit_forgets]
  · rw [exec_crc16_of_not_le _ _ _ _ inRange, exec_crc16_of_not_le _ _ _ _ inRange]

theorem exec_encode_forgets (s : State) (lo hi t a b c d e f g : Byte) :
    exec (.encode t a b c d e f g) { s with bccLo := lo, bccHi := hi } = exec (.encode t a b c d e f g) s := by
  rw [exec_encode, exec_encode, crcUnit_forgets]

theorem exec_validate_forgets (s : State) (lo hi a b c d e f x y : Byte) :
    exec (.validate a b c d e f x y) { s with bccLo := lo, bccHi := hi } = exec (.validate a b c d e f x y) s := by
  rw [exec_validate, exec_validate, crcUnit_forgets]

/-- Without an EXECUTE on the port START evaluates nothing, and the accumulators stay. -/
theorem exec_start_forgets (s : State) (lo hi : Byte) (presented : s.hostExec ≠ none) :
    exec .start { s with bccLo := lo, bccHi := hi } = exec .start s := by
  obtain ⟨p, hp⟩ := Option.ne_none_iff_exists'.mp presented
  rw [exec_start, exec_start, execStart_of_hostExec { s with bccLo := lo, bccHi := hi } p hp, acceptExecute_forgets,
    execStart_of_hostExec s p hp]

/-- Short of eight bytes CHECK evaluates nothing, and the accumulators stay. -/
theorem exec_check_forgets (s : State) (lo hi : Byte) (full : s.rcount = 8) :
    exec .check { s with bccLo := lo, bccHi := hi } = exec .check s := by
  rw [exec_check, exec_check, execCheck_of_full { s with bccLo := lo, bccHi := hi } full, crcUnit_forgets,
    execCheck_of_full s full]

/-! ### The obligations -/

/-- Settles O12: the value is that of a packed word, and its slices are the bytes that were packed. -/
theorem checksumWordComplementsTheAccumulators : Obligations.ChecksumWordComplementsTheAccumulators := by
  intro mix bytes offset count acc c
  have packed : c = crcWord acc := crc16_eq_crcWord mix bytes offset count
  refine ⟨?_, ?_, ?_⟩
  · rw [packed, crcWord_toNat]
  · rw [packed, ← crcHiByte_eq_extractLsb', crcHiByte_crcWord]
  · rw [packed, ← crcLoByte_eq_extractLsb', crcLoByte_crcWord]

/-- Settles O10: a run over no bytes is the seed, and each evaluating operation goes through the checksum unit, which
forgets what the accumulators held. -/
theorem checksumSeedsAreFixed : Obligations.ChecksumSeedsAreFixed := by
  refine ⟨fun _ => rfl, fun s lo hi => ⟨?_, ?_, ?_, ?_, ?_⟩⟩
  · exact exec_crc16_forgets s lo hi
  · exact exec_encode_forgets s lo hi
  · exact exec_validate_forgets s lo hi
  · exact exec_start_forgets s lo hi
  · exact exec_check_forgets s lo hi

end Sys2Proof.Machine
end

section
/-! The waits of FLUSH and ECHO and the discarding of echo bytes (42_direction_echo.md R115, R117, R118): O33, O35,
O36. -/

namespace Sys2Proof.Machine

open Sys2Proof.Safety (Inv)

/-! ### What the tested conditions say -/

/-- R173: a timed condition is still false short of its bound. -/
theorem expired_eq_false_iff (s : State) (bound : Nat) : s.expired bound = false ↔ s.now - s.t0 < bound := by
  simp [State.expired]

/-- R119: neither exit condition of ECHO holds. -/
theorem echoOver_eq_false_iff (s : State) :
    s.echoOver = false ↔ s.echoCount < s.sentCount ∧ s.now - s.t0 < s.params.tEcho := by
  simp [State.echoOver, expired_eq_false_iff]

/-! ### What FLUSH and ECHO do while they stay -/

/-- R115: without `TxFlushed()` FLUSH changes nothing. -/
theorem execFlush_of_not_txFlushed (s : State) (pending : s.txFlushed = false) : execFlush s = .next s := by
  simp [execFlush, pending]

/-- R117, R118: with neither exit condition ECHO does what its pop allows. -/
theorem execEcho_of_not_echoOver (s : State) (staying : s.echoOver = false) :
    execEcho s = .next (match s.rxPop with
      | .ok (_, popped) => { popped with echoCount := s.echoCount + 1 }
      | .error _ => s) :=
  congrArg Host.Outcome.next (if_neg (Bool.eq_false_iff.mp staying))

/-- R117: the oldest byte is discarded and counted. -/
theorem execEcho_of_cons (s : State) (b : Byte) (rest : List Byte) (staying : s.echoOver = false)
    (available : s.rxq = b :: rest) :
    execEcho s = .next { s with rxq := rest, echoCount := s.echoCount + 1 } := by
  rw [execEcho_of_not_echoOver s staying, rxPop_cons s b rest available]

/-- R118: with no byte available nothing changes. -/
theorem execEcho_of_nil (s : State) (staying : s.echoOver = false) (empty : s.rxq = []) :
    execEcho s = .next s := by
  rw [execEcho_of_not_echoOver s staying, rxPop_nil s empty]

/-! ### The direction of the line -/

/-- R19, R115: a legal state in FLUSH has the line at transmit. -/
theorem dir_transmit_of_flush (s : State) (legal : Inv s) (flushing : s.phase = Phase.flush) : s.dir = .transmit := by
  have transmitting : Phase.transmitting s.phase = true := by rw [flushing]; decide
  exact legal.dirIff.mpr transmitting

/-! ### The obligations -/

/-- Settles O33: FLUSH tests the transmitter alone, and a legal state in FLUSH is one of the transmitting ones. -/
theorem flushWaitsWithoutDeadline : Obligations.FlushWaitsWithoutDeadline :=
  ⟨execFlush_of_not_txFlushed, dir_transmit_of_flush⟩

/-- Settles O35: with neither exit condition and a byte available, ECHO pops and counts. -/
theorem echoDiscardsOneByte : Obligations.EchoDiscardsOneByte := by
  intro s b rest short inWindow available
  have staying : s.echoOver = false := (echoOver_eq_false_iff s).mpr ⟨short, inWindow⟩
  exact execEcho_of_cons s b rest staying available

/-- Settles O36: with neither exit condition and no byte available, ECHO waits. -/
theorem echoWaitsForBytes : Obligations.EchoWaitsForBytes := by
  intro s short inWindow empty
  have staying : s.echoOver = false := (echoOver_eq_false_iff s).mpr ⟨short, inWindow⟩
  exact execEcho_of_nil s staying empty

end Sys2Proof.Machine
end

section
/-! READ with neither exit condition: storing a byte and waiting (43_sequencer.md R140, R141): O39, O40. -/

namespace Sys2Proof.Machine

/-! ### What the exit condition says -/

/-- R142: neither exit condition of READ holds. -/
theorem readOver_eq_false_iff (s : State) :
    s.readOver = false ↔ s.rcount ≠ 8 ∧ s.now - s.t0 < s.params.tReply := by
  simp [State.readOver, expired_eq_false_iff]

/-! ### What READ does while it stays -/

/-- R55: with the index in range no store is dropped. -/
theorem storeRep_of_lt (s : State) (b : Byte) (inRange : s.rcount < 8) :
    s.storeRep b = { s with rep := s.rep.set s.rcount b, rcount := s.rcount + 1 } := by
  have stored : s.rep.setIfInBounds s.rcount b = s.rep.set s.rcount b := by
    ext k hk
    simp [Vector.getElem_setIfInBounds, Vector.getElem_set]
  rw [State.storeRep, stored]

/-- R140: the oldest byte is popped and stored. -/
theorem execRead_of_cons (s : State) (b : Byte) (rest : List Byte) (staying : s.readOver = false)
    (available : s.rxq = b :: rest) :
    execRead s = .next (({ s with rxq := rest } : State).storeRep b) := by
  simp [execRead, staying, rxPop_cons s b rest available]

/-- R141: with no byte available nothing changes. -/
theorem execRead_of_nil (s : State) (staying : s.readOver = false) (empty : s.rxq = []) :
    execRead s = .next s := by
  simp [execRead, staying, rxPop_nil s empty]

/-! ### The obligations -/

/-- Settles O39: with fewer than eight bytes and time left READ stays, and its store is within the reply buffer. -/
theorem readStoresOneByte : Obligations.ReadStoresOneByte := by
  intro s b rest inRange inTime available
  have staying : s.readOver = false := (readOver_eq_false_iff s).mpr ⟨inRange.ne, inTime⟩
  refine ⟨?_, inRange⟩
  rw [exec_read, execRead_of_cons s b rest staying available, storeRep_of_lt { s with rxq := rest } b inRange]

/-- Settles O40: with neither exit condition and no byte available, READ waits. -/
theorem readWaitsForBytes : Obligations.ReadWaitsForBytes := by
  intro s notFull inTime empty
  have staying : s.readOver = false := (readOver_eq_false_iff s).mpr ⟨notFull, inTime⟩
  exact execRead_of_nil s staying empty

end Sys2Proof.Machine
end

section
/-! Decoding and encoding (30_encoding.md R65 to R69): O9, O7, O8. -/

namespace Sys2Proof

/-! ### From the operation to its word and back -/

/-- Every well-formed operation is what its word decodes to. -/
theorem decode_encode (i : Instr) (ok : i.WellFormed) : decode (encode i) = .ok i := by
  cases i with
  | req10 => exact Laws.RoundTrip.req10 _ _ _ _ _ _ _ _ _ _ ok
  | rep8 => exact Laws.RoundTrip.rep8 _ _ _ _ _ _ _ _ ok
  | crc16 => exact Laws.RoundTrip.crc16 _ _ _ ok
  | encode => exact Laws.RoundTrip.encode _ _ _ _ _ _ _ _ ok
  | validate => exact Laws.RoundTrip.validate _ _ _ _ _ _ _ _ ok
  | execute => exact Laws.RoundTrip.execute _ _ _ _ _ _ _ ok
  | settid => exact Laws.RoundTrip.settid _ ok
  | start => exact Laws.RoundTrip.start ok
  | drain => exact Laws.RoundTrip.drain ok
  | settle => exact Laws.RoundTrip.settle ok
  | write => exact Laws.RoundTrip.write ok
  | flush => exact Laws.RoundTrip.flush ok
  | echo => exact Laws.RoundTrip.echo ok
  | read => exact Laws.RoundTrip.read ok
  | check => exact Laws.RoundTrip.check ok
  | retry => exact Laws.RoundTrip.retry ok
  | done => exact Laws.RoundTrip.done ok
  | unused => exact Laws.RoundTrip.unused _ ok

/-! ### From the word to its operation and back -/

/-- R66, R67: each of the sixteen codes selects a well-formed operation whose code it is. -/
theorem decodePhase_roundTrip (code : BitVec 4) :
    (decodePhase code).WellFormed ∧ encode (decodePhase code) = .phase code := by
  revert code; decide

/-- R69: a named operation keeps its name and all its operand bytes; CRC16 is decoded only within R80's requirement. -/
theorem decodeExternal_roundTrip (sel : Selector) (bytes : List Byte) (i : Instr)
    (decoded : decodeExternal sel bytes = .ok i) : i.WellFormed ∧ encode i = .external ⟨sel, bytes⟩ := by
  cases sel <;> simp only [decodeExternal] at decoded <;> split at decoded <;> cases decoded
  case crc16.isTrue inRange => exact ⟨decide_eq_true inRange, rfl⟩
  all_goals exact ⟨rfl, rfl⟩

/-- What a word decodes to is well-formed, and the word is its encoding. -/
theorem decode_roundTrip (w : InstrWord) (i : Instr) (decoded : decode w = .ok i) :
    i.WellFormed ∧ encode i = w := by
  cases w with
  | phase code => cases decoded; exact decodePhase_roundTrip code
  | external o => exact decodeExternal_roundTrip o.sel o.bytes i decoded

/-! ### The obligations -/

/-- Settles O9: each direction is one of the two round trips. -/
theorem decodeAndEncodeAreInverse : Obligations.DecodeAndEncodeAreInverse := by
  intro w i
  constructor
  · exact decode_roundTrip w i
  · rintro ⟨ok, rfl⟩
    exact decode_encode i ok

/-- Settles O7: the sixteen codes, one by one. -/
theorem phaseCodesSelectTheMicroOperations : Obligations.PhaseCodesSelectTheMicroOperations := by
  refine ⟨by decide, ?_⟩
  decide

/-- Settles O8: the eight words, evaluated. -/
theorem tableWordsDecode : Obligations.TableWordsDecode := by
  unfold Obligations.TableWordsDecode
  decide +kernel

end Sys2Proof
end

section
/-! What a step can do to the registers, as a relation: a step that is no sequencer turn leaves them, the acceptance of
an EXECUTE opens a transaction, and a sequencer turn is one of the moves of R130. -/

namespace Sys2Proof.Machine

/-- `t` differs from `s` at most in what no micro-operation's control flow rests on: `TARGET_ID`, the checksum unit, the
environment and the model's own fields; and the clock does not go back. -/
structure Quiet (s t : State) : Prop where
  req : t.req = s.req
  rep : t.rep = s.rep
  phase : t.phase = s.phase
  attempt : t.attempt = s.attempt
  sent : t.sent = s.sent
  validated : t.validated = s.validated
  busy : t.busy = s.busy
  dir : t.dir = s.dir
  sentCount : t.sentCount = s.sentCount
  echoCount : t.echoCount = s.echoCount
  rcount : t.rcount = s.rcount
  t0 : t.t0 = s.t0
  params : t.params = s.params
  now : s.now ≤ t.now

theorem quiet_takeMove (s : State) : Quiet s s.takeMove := by constructor <;> simp

/-- R46 to R49: a move of the bus, the clock or the transmit path touches no register. -/
theorem quiet_environmentMove (m : Move) (s : State) : Quiet s (environmentMove m s) := by
  cases m <;> constructor <;> simp [environmentMove]

theorem Quiet.trans {s u t : State} (a : Quiet s u) (b : Quiet u t) : Quiet s t where
  req := b.req.trans a.req
  rep := b.rep.trans a.rep
  phase := b.phase.trans a.phase
  attempt := b.attempt.trans a.attempt
  sent := b.sent.trans a.sent
  validated := b.validated.trans a.validated
  busy := b.busy.trans a.busy
  dir := b.dir.trans a.dir
  sentCount := b.sentCount.trans a.sentCount
  echoCount := b.echoCount.trans a.echoCount
  rcount := b.rcount.trans a.rcount
  t0 := b.t0.trans a.t0
  params := b.params.trans a.params
  now := a.now.trans b.now

/-- What a sequencer turn does to the state with its move taken off, but for the acceptance of an EXECUTE: one
constructor per exit of each micro-operation (42_direction_echo.md R111 to R120, 43_sequencer.md R140 to R145). -/
inductive Turn (s : State) : State → Prop where
  | idle (phase : Phase.actsAsIdle s.phase = true) : Turn s s
  | drainPop (phase : s.phase = Phase.drain) (b : Byte) (rest : List Byte) (queue : s.rxq = b :: rest) :
      Turn s { s with rxq := rest }
  | drainEmpty (phase : s.phase = Phase.drain) (queue : s.rxq = []) :
      Turn s (((s.setDir .transmit).stampT0).goto Phase.settle)
  | settleHold (phase : s.phase = Phase.settle) (staying : s.settleOver = false) : Turn s s
  | settleOver (phase : s.phase = Phase.settle) (ended : s.settleOver = true) : Turn s (s.goto Phase.write)
  | write (phase : s.phase = Phase.write) : Turn s ({ s.txWrite with sentCount := s.txCount }.goto Phase.flush)
  | flushWait (phase : s.phase = Phase.flush) (pending : s.txFlushed = false) : Turn s s
  | flushDone (phase : s.phase = Phase.flush) (flushed : s.txFlushed = true) :
      Turn s ({ (s.setDir .receive).stampT0 with echoCount := 0 }.goto Phase.echo)
  | echoFull (phase : s.phase = Phase.echo) (ended : s.echoOver = true) (full : s.wroteFull = true) :
      Turn s ({ s.stampT0 with sent := true, rcount := 0 }.goto Phase.read)
  | echoShort (phase : s.phase = Phase.echo) (ended : s.echoOver = true) (short : s.wroteFull = false) :
      Turn s (s.goto Phase.retry)
  | echoPop (phase : s.phase = Phase.echo) (staying : s.echoOver = false) (b : Byte) (rest : List Byte)
      (queue : s.rxq = b :: rest) : Turn s { s with rxq := rest, echoCount := s.echoCount + 1 }
  | echoWait (phase : s.phase = Phase.echo) (staying : s.echoOver = false) (queue : s.rxq = []) : Turn s s
  | readOver (phase : s.phase = Phase.read) (ended : s.readOver = true) : Turn s (s.goto Phase.check)
  | readStore (phase : s.phase = Phase.read) (staying : s.readOver = false) (b : Byte) (rest : List Byte)
      (queue : s.rxq = b :: rest) : Turn s (({ s with rxq := rest } : State).storeRep b)
  | readWait (phase : s.phase = Phase.read) (staying : s.readOver = false) (queue : s.rxq = []) : Turn s s
  | checkGood (phase : s.phase = Phase.check) (good : s.replyGood = true) (full : s.rcount = 8) :
      Turn s ({ s.crcUnit (s.rep.toList.take 6) with validated := true }.goto Phase.done)
  | checkMalformed (phase : s.phase = Phase.check) (bad : s.replyGood = false) (full : s.rcount = 8) :
      Turn s ((s.crcUnit (s.rep.toList.take 6)).goto Phase.retry)
  | checkTimeout (phase : s.phase = Phase.check) (bad : s.replyGood = false) (short : s.rcount ≠ 8) :
      Turn s (s.goto Phase.retry)
  | retryAgain (phase : s.phase = Phase.retry) (budget : s.attempt + 1 < s.params.maxAttempts) :
      Turn s ({ s.clearRep with attempt := s.attempt + 1, rcount := 0 }.goto Phase.drain)
  | retryEnd (phase : s.phase = Phase.retry) (spent : s.params.maxAttempts ≤ s.attempt + 1) :
      Turn s ({ s.clearRep with attempt := s.attempt + 1, rcount := 0 }.goto Phase.done)
  | doneValid (phase : s.phase = Phase.done) (valid : s.validated = true) :
      Turn s ({ s with busy := false }.goto Phase.idle)
  | doneFailed (phase : s.phase = Phase.done) (failed : s.validated = false) :
      Turn s ({ s.clearRep with busy := false }.goto Phase.idle)

/-! ### Each micro-operation that answers a next state makes a turn -/

theorem turn_of_execDrain {s t : State} (phase : s.phase = Phase.drain) (h : execDrain s = .next t) : Turn s t := by
  rcases execDrain_cases s t h with ⟨b, rest, queue, rfl⟩ | ⟨queue, rfl⟩
  · exact .drainPop phase b rest queue
  · exact .drainEmpty phase queue

theorem turn_of_execSettle {s t : State} (phase : s.phase = Phase.settle) (h : execSettle s = .next t) :
    Turn s t := by
  rcases execSettle_cases s t h with ⟨ended, rfl⟩ | ⟨staying, rfl⟩
  · exact .settleOver phase ended
  · exact .settleHold phase staying

theorem turn_of_execWrite {s t : State} (phase : s.phase = Phase.write) (h : execWrite s = .next t) : Turn s t := by
  rw [execWrite_cases s t h]
  exact .write phase

theorem turn_of_execFlush {s t : State} (phase : s.phase = Phase.flush) (h : execFlush s = .next t) : Turn s t := by
  rcases execFlush_cases s t h with ⟨flushed, rfl⟩ | ⟨pending, rfl⟩
  · exact .flushDone phase flushed
  · exact .flushWait phase pending

theorem turn_of_execEcho {s t : State} (phase : s.phase = Phase.echo) (h : execEcho s = .next t) : Turn s t := by
  rcases execEcho_cases s t h with
    ⟨ended, full, rfl⟩ | ⟨ended, short, rfl⟩ | ⟨staying, b, rest, queue, rfl⟩ | ⟨staying, queue, rfl⟩
  · exact .echoFull phase ended full
  · exact .echoShort phase ended short
  · exact .echoPop phase staying b rest queue
  · exact .echoWait phase staying queue

theorem turn_of_execRead {s t : State} (phase : s.phase = Phase.read) (h : execRead s = .next t) : Turn s t := by
  rcases execRead_cases s t h with ⟨ended, rfl⟩ | ⟨staying, b, rest, queue, rfl⟩ | ⟨staying, queue, rfl⟩
  · exact .readOver phase ended
  · exact .readStore phase staying b rest queue
  · exact .readWait phase staying queue

theorem turn_of_execCheck {s t : State} (phase : s.phase = Phase.check) (h : execCheck s = .next t) : Turn s t := by
  rcases execCheck_cases s t h with ⟨good, full, rfl⟩ | ⟨bad, full, rfl⟩ | ⟨bad, short, rfl⟩
  · exact .checkGood phase good full
  · exact .checkMalformed phase bad full
  · exact .checkTimeout phase bad short

theorem turn_of_execRetry {s t : State} (phase : s.phase = Phase.retry) (h : execRetry s = .next t) : Turn s t := by
  rcases execRetry_cases s t h with ⟨budget, rfl⟩ | ⟨spent, rfl⟩
  · exact .retryAgain phase budget
  · exact .retryEnd phase spent

theorem turn_of_execDone {s t : State} (phase : s.phase = Phase.done) (h : execDone s = .next t) : Turn s t := by
  rcases execDone_cases s t h with ⟨valid, rfl⟩ | ⟨failed, rfl⟩
  · exact .doneValid phase valid
  · exact .doneFailed phase failed

/-! ### The step -/

/-- Neither does a move of the bus, the clock or the transmit path write `TARGET_ID`. -/
theorem environmentMove_targetId (m : Move) (s : State) : (environmentMove m s).targetId = s.targetId := by
  cases m <;> simp [environmentMove]

/-- Every step that answers a next state is quiet and no sequencer turn, with `TARGET_ID` written by SETTID only, or
accepts an EXECUTE, or is a turn. -/
theorem step_cases (s t : State) (h : step s = .next t) :
    (Quiet s t ∧ (∀ code, s.fetch ≠ some (.phase code)) ∧ (t.targetId = s.targetId ∨
      ∃ v, s.fetch = some (.external ⟨.settid, [v]⟩) ∧ t = { s.takeMove with targetId := v })) ∨
    (∃ p, Phase.actsAsIdle s.phase = true ∧ t = s.takeMove.acceptExecute p) ∨
    (s.fetch = some (.phase s.phase) ∧ Turn s.takeMove t) := by
  rcases step_next_cases s t h with ⟨hf, rfl⟩ | accepted | ⟨v, hf, rfl⟩ | ⟨o, hf, lo, hi, out, q, rfl⟩ | ⟨hf, turn⟩
  · refine .inl ⟨(quiet_takeMove s).trans (quiet_environmentMove _ _), by simp [hf], .inl ?_⟩
    rw [environmentMove_targetId, State.takeMove_targetId]
  · exact .inr (.inl accepted)
  · exact .inl ⟨by constructor <;> simp, by simp [hf], .inr ⟨v, hf, rfl⟩⟩
  · exact .inl ⟨by constructor <;> simp, by simp [hf], .inl (State.takeMove_targetId s)⟩
  · refine .inr (.inr ⟨hf, ?_⟩)
    rw [← State.takeMove_phase s] at turn
    rcases turn with ⟨p, rfl⟩ | ⟨p, e⟩ | ⟨p, e⟩ | ⟨p, e⟩ | ⟨p, e⟩ | ⟨p, e⟩ | ⟨p, e⟩ | ⟨p, e⟩ | ⟨p, e⟩ | ⟨p, e⟩
    · exact .idle p
    · exact turn_of_execDrain p e
    · exact turn_of_execSettle p e
    · exact turn_of_execWrite p e
    · exact turn_of_execFlush p e
    · exact turn_of_execEcho p e
    · exact turn_of_execRead p e
    · exact turn_of_execCheck p e
    · exact turn_of_execRetry p e
    · exact turn_of_execDone p e

end Sys2Proof.Machine
end

section
/-! The invariant: what it asks in each group of phases, and that every step keeps it (43_sequencer.md R147): O50, O49,
O51. -/

namespace Sys2Proof.Machine

open Sys2Proof.Safety (Inv RepClear RepTailClear)

/-! ### The clauses of the invariant, grouped by the phases they speak of -/

/-- The clauses of `Inv` that speak of no phase. -/
structure Ranges (s : State) : Prop where
  validatedSent : s.validated = true → s.sent = true
  validReply : s.validated = true → s.rcount = 8 ∧ validateFrame s.params.crcMix3 s.rep = true
  rcountLe : s.rcount ≤ 8
  sentCountLe : s.sentCount ≤ 10
  echoCountLe : s.echoCount ≤ 10
  attemptLe : s.attempt ≤ s.params.maxAttempts
  stampLe : s.t0 ≤ s.now

/-- An attempt runs, within the budget and without a valid reply. -/
structure Attempting (s : State) : Prop where
  busy : s.busy = true
  validated : s.validated = false
  attempt : s.attempt < s.params.maxAttempts

/-- What holds before the reply is read: an attempt runs and nothing of a reply is stored. -/
structure Unread (s : State) : Prop extends Attempting s where
  rcount : s.rcount = 0
  clear : RepClear s

/-- The echo is counted against the write it belongs to, with the line at receive. -/
structure Listening (s : State) : Prop where
  dir : s.dir = .receive
  echo : s.echoCount ≤ s.sentCount

/-- The whole request was written and is marked so. -/
structure Confirmed (s : State) : Prop where
  sent : s.sent = true
  count : s.sentCount = 10

/-! ### What a legal state has in each group of phases -/

theorem ranges_of_inv {s : State} (h : Inv s) : Ranges s :=
  ⟨h.validatedSent, h.validReply, h.rcountLe, h.sentCountLe, h.echoCountLe, h.attemptLe, h.stampLe⟩

theorem attempting_of_inv {s : State} {p : BitVec 4} (h : Inv s) (phase : s.phase = p)
    (runs : Phase.inAttempt p = true := by rfl) : Attempting s := by
  subst phase
  exact
    { busy := h.busyIff.mpr fun idle => by rw [idle] at runs; exact absurd runs (by decide)
      validated := h.unvalidated runs
      attempt := h.attemptRuns runs }

theorem unread_of_inv {s : State} {p : BitVec 4} (h : Inv s) (phase : s.phase = p)
    (before : Phase.beforeRead p = true := by rfl) : Unread s := by
  subst phase
  exact
    { attempting_of_inv h rfl (by simp [Phase.inAttempt, before]) with
      rcount := h.nothingRead before
      clear := fun k hk => h.tailClear (.inl before) k hk (by simp [h.nothingRead before]) }

theorem listening_of_inv {s : State} {p : BitVec 4} (h : Inv s) (phase : s.phase = p)
    (quiet : Phase.transmitting p = false := by rfl) : Listening s := by
  subst phase
  have notTransmit : s.dir ≠ .transmit := fun dir => absurd (quiet.symm.trans (h.dirIff.mp dir)) nofun
  exact
    { dir := by cases dir : s.dir <;> simp_all
      echo := h.echoLeSent fun flush => by rw [flush] at quiet; exact absurd quiet (by decide) }

theorem confirmed_of_inv {s : State} (h : Inv s) (late : s.phase = Phase.read ∨ s.phase = Phase.check) :
    Confirmed s :=
  ⟨(h.fullFrameSent late).1, (h.fullFrameSent late).2⟩

/-! ### What makes a state legal in each group of phases -/

/-- Before the reply is read: DRAIN to ECHO. -/
theorem inv_of_unread {s : State} (r : Ranges s) (u : Unread s) (before : Phase.beforeRead s.phase = true)
    (dirIff : s.dir = .transmit ↔ Phase.transmitting s.phase = true)
    (echo : s.phase ≠ Phase.flush → s.echoCount ≤ s.sentCount)
    (settled : s.phase = Phase.write → s.params.tSettle ≤ s.now - s.t0) : Inv s := by
  have phases : ∀ p, Phase.beforeRead p = true → p.toNat ≤ 9 ∧ p ≠ Phase.idle ∧ p ≠ Phase.read ∧ p ≠ Phase.check ∧
      p ≠ Phase.done := by decide
  obtain ⟨code, notIdle, notRead, notCheck, notDone⟩ := phases _ before
  exact
    { r with
      legalPhase := code
      busyIff := by simp [u.busy, notIdle]
      dirIff := dirIff
      unvalidated := fun _ => u.validated
      echoLeSent := echo
      tailClear := fun _ k hk _ => u.clear k hk
      nothingRead := fun _ => u.rcount
      fullFrameSent := by simp [notRead, notCheck]
      readEnded := by simp [notCheck]
      attemptRuns := fun _ => u.attempt
      settled := settled
      failedClear := by simp [notDone, notIdle]
      echoDiscardedLe := echoDiscarded_le_sentCount s echo }

/-- While the reply is read, and while it is judged or given up: READ, CHECK and RETRY. -/
theorem inv_of_attempting {s : State} (r : Ranges s) (a : Attempting s) (l : Listening s)
    (phase : s.phase = Phase.read ∨ s.phase = Phase.check ∨ s.phase = Phase.retry)
    (tail : s.phase = Phase.read → RepTailClear s)
    (confirmed : s.phase ≠ Phase.retry → Confirmed s)
    (readEnded : s.phase = Phase.check → s.rcount = 8 ∨ s.params.tReply ≤ s.now - s.t0) : Inv s := by
  have phases : ∀ p, p = Phase.read ∨ p = Phase.check ∨ p = Phase.retry → p.toNat ≤ 9 ∧ p ≠ Phase.idle ∧
      Phase.transmitting p = false ∧ Phase.beforeRead p = false ∧ p ≠ Phase.write ∧ p ≠ Phase.done ∧
      (p = Phase.read ∨ p = Phase.check → p ≠ Phase.retry) := by decide
  obtain ⟨code, notIdle, quiet, after, notWrite, notDone, late⟩ := phases _ phase
  exact
    { r with
      legalPhase := code
      busyIff := by simp [a.busy, notIdle]
      dirIff := by simp [l.dir, quiet]
      unvalidated := fun _ => a.validated
      echoLeSent := fun _ => l.echo
      tailClear := fun h => tail (h.resolve_left (by simp [after]))
      nothingRead := by simp [after]
      fullFrameSent := fun h => ⟨(confirmed (late h)).sent, (confirmed (late h)).count⟩
      readEnded := readEnded
      attemptRuns := fun _ => a.attempt
      settled := by simp [notWrite]
      failedClear := by simp [notDone, notIdle]
      echoDiscardedLe := echoDiscarded_le_sentCount s fun _ => l.echo }

/-- At the end of a transaction and after it: DONE and IDLE. -/
theorem inv_of_ended {s : State} (r : Ranges s) (l : Listening s) (phase : s.phase = Phase.done ∨ s.phase = Phase.idle)
    (busyIff : s.busy = true ↔ s.phase ≠ Phase.idle) (clear : s.validated = false → RepClear s) : Inv s := by
  have phases : ∀ p, p = Phase.done ∨ p = Phase.idle → p.toNat ≤ 9 ∧ Phase.transmitting p = false ∧
      Phase.beforeRead p = false ∧ p ≠ Phase.read ∧ p ≠ Phase.check ∧ p ≠ Phase.write ∧
      Phase.inAttempt p = false := by decide
  obtain ⟨code, quiet, after, notRead, notCheck, notWrite, ended⟩ := phases _ phase
  exact
    { r with
      legalPhase := code
      busyIff := busyIff
      dirIff := by simp [l.dir, quiet]
      unvalidated := by simp [ended]
      echoLeSent := fun _ => l.echo
      tailClear := by simp [after, notRead]
      nothingRead := by simp [after]
      fullFrameSent := by simp [notRead, notCheck]
      readEnded := by simp [notCheck]
      attemptRuns := by simp [ended]
      settled := by simp [notWrite]
      failedClear := fun _ => clear
      echoDiscardedLe := echoDiscarded_le_sentCount s fun _ => l.echo }

/-! ### What is not a turn -/

/-- A state that is `s` but for what no clause looks at, and for a later clock. -/
theorem Quiet.eq_update {s t : State} (q : Quiet s t) : t = { s with
    now := t.now, bccLo := t.bccLo, bccHi := t.bccHi, targetId := t.targetId, rxq := t.rxq
    txInFlight := t.txInFlight, txFlushed := t.txFlushed, txMask := t.txMask, hostExec := t.hostExec
    codecOut := t.codecOut, agenda := t.agenda, draws := t.draws } := by
  simp only [← q.req, ← q.rep, ← q.phase, ← q.attempt, ← q.sent, ← q.validated, ← q.busy, ← q.dir, ← q.sentCount,
    ← q.echoCount, ← q.rcount, ← q.t0, ← q.params]

/-- What is not a turn keeps the invariant: the clauses that look at the clock only wait for it. -/
theorem inv_of_quiet {s t : State} (h : Inv s) (q : Quiet s t) : Inv t := by
  have later : s.now - s.t0 ≤ t.now - s.t0 := Nat.sub_le_sub_right q.now _
  rw [q.eq_update]
  exact
    { h with
      readEnded := fun check => (h.readEnded check).imp_right fun d => d.trans later
      settled := fun write => (h.settled write).trans later
      stampLe := h.stampLe.trans q.now }

/-- In a legal state an EXECUTE is accepted at `IDLE` only: no unused code is reached (10_state.md R13). -/
theorem idle_of_actsAsIdle {s : State} (h : Inv s) (acts : Phase.actsAsIdle s.phase = true) :
    s.phase = Phase.idle := by
  have codes : ∀ p, Phase.actsAsIdle p = true → p.toNat ≤ 9 → p = Phase.idle := by decide
  exact codes _ acts h.legalPhase

theorem repClear_of_replicate {s : State} (cleared : s.rep = Vector.replicate 8 s.params.clearByte) :
    RepClear s := by
  intro k hk
  simp [cleared]

/-- R132: the acceptance of an EXECUTE opens a legal transaction. -/
theorem inv_acceptExecute {s : State} (h : Inv s) (acts : Phase.actsAsIdle s.phase = true) (p : Payload) :
    Inv (s.acceptExecute p) := by
  have r := ranges_of_inv h
  have l := listening_of_inv h (idle_of_actsAsIdle h acts)
  have ranges : Ranges (s.acceptExecute p) :=
    { r with validatedSent := nofun, validReply := nofun, rcountLe := Nat.zero_le _, attemptLe := Nat.zero_le _ }
  have clear : RepClear (s.acceptExecute p) := repClear_of_replicate rfl
  rcases acceptExecute_phase_cases s p with ⟨budget, phase⟩ | ⟨-, phase⟩
  · refine inv_of_unread ranges ⟨⟨rfl, rfl, budget⟩, rfl, clear⟩ ?_ ?_ (fun _ => l.echo) ?_ <;> rw [phase]
    · rfl
    · exact iff_of_false (by simp [l.dir]) (by decide)
    · exact fun write => absurd write (by decide)
  · refine inv_of_ended ranges ⟨l.dir, l.echo⟩ (.inl phase) ?_ fun _ => clear
    rw [phase]
    exact iff_of_true rfl (by decide)

/-! ### The exits of the direction controller -/

theorem inv_drainEmpty {s : State} (h : Inv s) (phase : s.phase = Phase.drain) :
    Inv (((s.setDir .transmit).stampT0).goto Phase.settle) :=
  inv_of_unread { ranges_of_inv h with stampLe := le_rfl } { unread_of_inv h phase with } rfl (iff_of_true rfl rfl)
    (fun _ => (listening_of_inv h phase).echo) (fun write => absurd write (by simp [Phase.settle, Phase.write]))

theorem inv_settleOver {s : State} (h : Inv s) (phase : s.phase = Phase.settle) (ended : s.settleOver = true) :
    Inv (s.goto Phase.write) :=
  inv_of_unread { ranges_of_inv h with } { unread_of_inv h phase with } rfl
    (h.dirIff.trans (iff_of_true (by rw [phase]; rfl) rfl)) (fun _ => h.echoLeSent (by rw [phase]; decide))
    (fun _ => of_decide_eq_true ended)

theorem inv_write {s : State} (h : Inv s) (phase : s.phase = Phase.write) :
    Inv (({ s.txWrite with sentCount := s.txCount } : State).goto Phase.flush) :=
  inv_of_unread { ranges_of_inv h with sentCountLe := txCount_le s } { unread_of_inv h phase with } rfl
    (h.dirIff.trans (iff_of_true (by rw [phase]; rfl) rfl)) (fun other => absurd rfl other)
    (fun write => absurd write (by simp [Phase.flush, Phase.write]))

theorem inv_flushDone {s : State} (h : Inv s) (phase : s.phase = Phase.flush) :
    Inv (({ (s.setDir .receive).stampT0 with echoCount := 0 } : State).goto Phase.echo) :=
  inv_of_unread { ranges_of_inv h with echoCountLe := Nat.zero_le _, stampLe := le_rfl } { unread_of_inv h phase with }
    rfl (iff_of_false nofun nofun) (fun _ => Nat.zero_le _)
    (fun write => absurd write (by simp [Phase.echo, Phase.write]))

theorem inv_echoFull {s : State} (h : Inv s) (phase : s.phase = Phase.echo) (full : s.wroteFull = true) :
    Inv (({ s.stampT0 with sent := true, rcount := 0 } : State).goto Phase.read) := by
  have u := unread_of_inv h phase
  refine inv_of_attempting ?_ { u with } { listening_of_inv h phase with } (.inl rfl) (fun _ k hk _ => u.clear k hk)
    (fun _ => ⟨rfl, of_decide_eq_true full⟩) (fun check => absurd check (by simp [Phase.read, Phase.check]))
  exact
    { ranges_of_inv h with
      validatedSent := fun _ => rfl
      validReply := fun v => absurd v (by simp [u.validated])
      rcountLe := Nat.zero_le _
      stampLe := le_rfl }

theorem inv_echoPop {s : State} (h : Inv s) (phase : s.phase = Phase.echo) (staying : s.echoOver = false)
    (rest : List Byte) : Inv { s with rxq := rest, echoCount := s.echoCount + 1 } := by
  have more : s.echoCount + 1 ≤ s.sentCount := ((echoOver_eq_false_iff s).mp staying).1
  exact inv_of_unread { ranges_of_inv h with echoCountLe := more.trans h.sentCountLe } { unread_of_inv h phase with }
    (by rw [phase]; rfl) h.dirIff (fun _ => more) h.settled

/-! ### The failure path -/

/-- R169: an attempt may be given up from any phase with the line at receive. -/
theorem inv_goto_retry {s : State} (h : Inv s) (a : Attempting s) (l : Listening s) : Inv (s.goto Phase.retry) :=
  inv_of_attempting { ranges_of_inv h with } { a with } { l with } (.inr (.inr rfl))
    (fun read => absurd read (by simp [Phase.retry, Phase.read])) (fun other => absurd rfl other)
    (fun check => absurd check (by simp [Phase.retry, Phase.check]))

theorem inv_retryAgain {s : State} (h : Inv s) (phase : s.phase = Phase.retry)
    (budget : s.attempt + 1 < s.params.maxAttempts) :
    Inv (({ s.clearRep with attempt := s.attempt + 1, rcount := 0 } : State).goto Phase.drain) := by
  have a := attempting_of_inv h phase
  have l := listening_of_inv h phase
  refine inv_of_unread ?_ { a with rcount := rfl, clear := repClear_of_replicate rfl, attempt := budget } rfl
    (iff_of_false (by simp [l.dir]) nofun) (fun _ => l.echo)
    (fun write => absurd write (by simp [Phase.drain, Phase.write]))
  exact
    { ranges_of_inv h with
      validReply := fun v => absurd v (by simp [a.validated])
      rcountLe := Nat.zero_le _
      attemptLe := budget.le }

theorem inv_retryEnd {s : State} (h : Inv s) (phase : s.phase = Phase.retry) :
    Inv (({ s.clearRep with attempt := s.attempt + 1, rcount := 0 } : State).goto Phase.done) := by
  have a := attempting_of_inv h phase
  refine inv_of_ended ?_ { listening_of_inv h phase with } (.inl rfl)
    (iff_of_true a.busy (by simp [Phase.done, Phase.idle])) fun _ => repClear_of_replicate rfl
  exact
    { ranges_of_inv h with
      validReply := fun v => absurd v (by simp [a.validated])
      rcountLe := Nat.zero_le _
      attemptLe := a.attempt }

/-! ### The reply -/

theorem inv_readOver {s : State} (h : Inv s) (phase : s.phase = Phase.read) (ended : s.readOver = true) :
    Inv (s.goto Phase.check) :=
  inv_of_attempting { ranges_of_inv h with } { attempting_of_inv h phase with } { listening_of_inv h phase with }
    (.inr (.inl rfl)) (fun read => absurd read (by simp [Phase.check, Phase.read]))
    (fun _ => { confirmed_of_inv h (.inl phase) with })
    (fun _ => by simpa [State.readOver, State.expired] using ended)

/-- R140: the store is within the reply buffer, and what lies behind it stays clear. -/
theorem inv_readStore {s : State} (h : Inv s) (phase : s.phase = Phase.read) (staying : s.readOver = false)
    (b : Byte) (rest : List Byte) : Inv (({ s with rxq := rest } : State).storeRep b) := by
  have a := attempting_of_inv h phase
  have room : s.rcount < 8 := lt_of_le_of_ne h.rcountLe ((readOver_eq_false_iff s).mp staying).1
  refine inv_of_attempting
    { ranges_of_inv h with validReply := fun v => absurd v (by simp [a.validated]), rcountLe := room }
    { a with } { listening_of_inv h phase with } (.inl phase) (fun _ k hk stored => ?_)
    (fun _ => { confirmed_of_inv h (.inl phase) with }) (fun check => absurd (phase.symm.trans check) (by decide))
  have behind : s.rcount < k := stored
  rw [storeRep_getElem, if_neg behind.ne]
  exact h.tailClear (.inr phase) k hk behind.le

theorem inv_checkGood {s : State} (h : Inv s) (phase : s.phase = Phase.check) (good : s.replyGood = true)
    (full : s.rcount = 8) :
    Inv (({ s.crcUnit (s.rep.toList.take 6) with validated := true } : State).goto Phase.done) := by
  have valid : validateFrame s.params.crcMix3 s.rep = true := by simpa [State.replyGood, full] using good
  have c := confirmed_of_inv h (.inr phase)
  exact inv_of_ended
    { ranges_of_inv h with validatedSent := fun _ => c.sent, validReply := fun _ => ⟨full, valid⟩ }
    { listening_of_inv h phase with } (.inl rfl)
    (iff_of_true (attempting_of_inv h phase).busy (by simp [Phase.done, Phase.idle])) nofun

/-! ### The end of a transaction -/

theorem inv_doneValid {s : State} (h : Inv s) (phase : s.phase = Phase.done) (valid : s.validated = true) :
    Inv (({ s with busy := false } : State).goto Phase.idle) :=
  inv_of_ended { ranges_of_inv h with } { listening_of_inv h phase with } (.inr rfl) (iff_of_false nofun (by simp))
    (fun failed => absurd (valid.symm.trans failed) nofun)

theorem inv_doneFailed {s : State} (h : Inv s) (phase : s.phase = Phase.done) (failed : s.validated = false) :
    Inv (({ s.clearRep with busy := false } : State).goto Phase.idle) :=
  inv_of_ended { ranges_of_inv h with validReply := fun v => absurd (failed.symm.trans v) nofun }
    { listening_of_inv h phase with } (.inr rfl) (iff_of_false nofun (by simp)) fun _ => repClear_of_replicate rfl

/-! ### Every step -/

/-- An evaluation of the checksum unit touches no register a clause looks at. -/
theorem quiet_crcUnit (s : State) (bytes : List Byte) : Quiet s (s.crcUnit bytes) := by constructor <;> simp

/-- Each exit of each micro-operation leads from a legal state to a legal state. -/
theorem inv_of_turn {s t : State} (h : Inv s) (turn : Turn s t) : Inv t := by
  cases turn with
  | idle | settleHold | flushWait | echoWait | readWait => exact h
  | drainPop => exact { h with }
  | drainEmpty phase => exact inv_drainEmpty h phase
  | settleOver phase ended => exact inv_settleOver h phase ended
  | write phase => exact inv_write h phase
  | flushDone phase => exact inv_flushDone h phase
  | echoFull phase _ full => exact inv_echoFull h phase full
  | echoShort phase | checkTimeout phase =>
    exact inv_goto_retry h (attempting_of_inv h phase) (listening_of_inv h phase)
  | echoPop phase staying _ rest => exact inv_echoPop h phase staying rest
  | readOver phase ended => exact inv_readOver h phase ended
  | readStore phase staying b rest => exact inv_readStore h phase staying b rest
  | checkGood phase good full => exact inv_checkGood h phase good full
  | checkMalformed phase =>
    exact inv_goto_retry (inv_of_quiet h (quiet_crcUnit s _)) { attempting_of_inv h phase with }
      { listening_of_inv h phase with }
  | retryAgain phase budget => exact inv_retryAgain h phase budget
  | retryEnd phase => exact inv_retryEnd h phase
  | doneValid phase valid => exact inv_doneValid h phase valid
  | doneFailed phase failed => exact inv_doneFailed h phase failed

/-- Settles O50: what is no turn touches no register, an EXECUTE is accepted only at `IDLE`, and each turn keeps what
its next phase asks. -/
theorem stepKeepsTheInvariant : Obligations.StepKeepsTheInvariant := by
  intro s t h hstep
  have h' : Inv s.takeMove := inv_of_quiet h (quiet_takeMove s)
  rcases step_cases s t hstep with ⟨q, -⟩ | ⟨p, acts, rfl⟩ | ⟨-, turn⟩
  · exact inv_of_quiet h q
  · exact inv_acceptExecute h' (by simpa using acts) p
  · exact inv_of_turn h' turn

/-! ### At reset -/

/-- Settles O49: the reset state is at `IDLE` with every count 0 and the reply buffer clear. -/
theorem resetIsLegal : Obligations.ResetIsLegal :=
  inv_of_ended
    { validatedSent := nofun, validReply := nofun, rcountLe := Nat.zero_le _, sentCountLe := Nat.zero_le _
      echoCountLe := Nat.zero_le _, attemptLe := Nat.zero_le _, stampLe := le_rfl }
    ⟨rfl, le_rfl⟩ (.inr rfl) (iff_of_false nofun (by simp [State.reset])) fun _ => repClear_of_replicate rfl

/-! ### The count of an earlier attempt -/

/-- The second attempt at WRITE, with the seven echo bytes of the first still counted (as in vector S13), and a transmit
path that takes nothing. -/
def staleEchoAtWrite : State :=
  { State.reset with
    phase := Phase.write, busy := true, dir := .transmit, attempt := 1, echoCount := 7, sentCount := 7, txMask := 0x000
    params := ⟨.shr3, 3, 0, 0, 0, 0x00⟩, rep := Vector.replicate 8 0x00, agenda := [.turn] }

theorem inv_staleEchoAtWrite : Inv staleEchoAtWrite := by
  refine inv_of_unread ?_ ⟨⟨rfl, rfl, ?_⟩, rfl, repClear_of_replicate rfl⟩ rfl (iff_of_true rfl rfl)
    (fun _ => le_rfl) (fun _ => Nat.zero_le _)
  · constructor <;> decide
  · decide

/-- R114: the turn takes none of the ten bytes and leaves the echo count as it is. -/
theorem step_staleEchoAtWrite : ∃ t, step staleEchoAtWrite = .next t ∧ t.echoCount = 7 ∧ t.sentCount = 0 :=
  ⟨_, rfl, rfl, by decide⟩

/-- Refutes O51: the write of the second attempt sets `SENT_COUNT` to 0 while `ECHO_COUNT` is still 7. -/
theorem not_echoCountNeverExceedsSentCount : ¬ Obligations.EchoCountNeverExceedsSentCount := by
  intro bounded
  obtain ⟨t, next, echo, sent⟩ := step_staleEchoAtWrite
  have := bounded staleEchoAtWrite t inv_staleEchoAtWrite le_rfl next
  omega

end Sys2Proof.Machine
end

section
/-! What a step runs, and where it stops (43_sequencer.md R130, R131; 60_exceptions.md R166): O1, O2, O3, O4, O5, O6,
O28, O29. -/

namespace Sys2Proof.Machine

/-! ### What the step runs -/

theorem step_of_fetch (s : State) (w : InstrWord) (i : Instr) (fetched : s.fetch = some w)
    (decoded : decode w = .ok i) : step s = exec i s.takeMove := by
  simp only [step, fetched, decoded]

/-- Where nothing is fetched, the step is the move of the environment. -/
theorem step_of_fetch_none (s : State) (fetched : s.fetch = none) :
    step s = .next (environmentMove s.nextMove s.takeMove) := by
  simp only [step, fetched]

theorem fetch_of_operation (s : State) (w : OpWord) (rest : List Move) (next : s.agenda = .operation w :: rest) :
    s.fetch = some (.external w) := by
  simp only [State.fetch, nextMove_cons s _ rest next]

theorem fetch_of_turn (s : State) (rest : List Move) (next : s.agenda = .turn :: rest) :
    s.fetch = some s.fetchTurn := by
  simp only [State.fetch, nextMove_cons s _ rest next]

/-- R130: with no EXECUTE on the port, or with one that is accepted, the code in `PHASE` is fetched. -/
theorem fetchTurn_eq_phase (s : State) (accepted : s.hostExec = none ∨ Phase.actsAsIdle s.phase = true) :
    s.fetchTurn = .phase s.phase := by
  rcases fetchTurn_cases s with fetched | ⟨p, presented, busy, -⟩
  · exact fetched
  · simp [presented, busy] at accepted

/-- R131: elsewhere the EXECUTE on the port is what the turn meets. -/
theorem fetchTurn_eq_execute (s : State) (p : Payload) (presented : s.hostExec = some p)
    (busy : Phase.actsAsIdle s.phase = false) : s.fetchTurn = .external ⟨.execute, p.toList⟩ := by
  simp [State.fetchTurn, presented, busy]

/-- A turn that fetches the code in `PHASE` runs what the code selects. -/
theorem step_of_turn (s : State) (rest : List Move) (next : s.agenda = .turn :: rest)
    (accepted : s.hostExec = none ∨ Phase.actsAsIdle s.phase = true) :
    step s = exec (decodePhase s.phase) { s with agenda := rest } := by
  have fetched : s.fetch = some (.phase s.phase) :=
    (fetch_of_turn s rest next).trans (congrArg some (fetchTurn_eq_phase s accepted))
  rw [step_of_fetch s _ _ fetched rfl, takeMove_cons s _ rest next]

/-! ### EXECUTE -/

/-- R69: the seven payload bytes of an EXECUTE, in order. -/
theorem payload_toList (p : Payload) : p.toList = [p[0], p[1], p[2], p[3], p[4], p[5], p[6]] := by
  apply List.ext_getElem
  · simp
  · intro i _ hi
    match i, hi with
    | 0, _ | 1, _ | 2, _ | 3, _ | 4, _ | 5, _ | 6, _ => simp

theorem decode_execute (p : Payload) :
    decode (.external ⟨.execute, p.toList⟩) = .ok (.execute p[0] p[1] p[2] p[3] p[4] p[5] p[6]) := by
  rw [payload_toList]
  rfl

/-- R131: the nine phases in which an EXECUTE is refused are the codes 1 to 9. -/
theorem actsAsIdle_eq_false_iff (p : BitVec 4) :
    Phase.actsAsIdle p = false ↔ 1 ≤ p.toNat ∧ p.toNat ≤ 9 := by
  revert p; decide

theorem exec_execute_of_busy (a b c d e f g : Byte) (s : State) (busy : Phase.actsAsIdle s.phase = false) :
    exec (.execute a b c d e f g) s = .refused .executeWhileBusy :=
  if_neg (by simp [busy])

theorem exec_execute_of_idle (a b c d e f g : Byte) (s : State) (idle : Phase.actsAsIdle s.phase = true) :
    exec (.execute a b c d e f g) s = .next (s.acceptExecute #v[a, b, c, d, e, f, g]) :=
  if_pos idle

/-! ### Where an operation stops -/

/-- R166: no operation answers a fault. -/
theorem exec_ne_fault (i : Instr) (s : State) (stop : Fault) : exec i s ≠ .fault stop := by
  cases i with
  | crc16 bytes offset count =>
    by_cases inRange : offset + count ≤ bytes.length
    · rw [exec_crc16_of_le s bytes offset count inRange]; nofun
    · rw [exec_crc16_of_not_le s bytes offset count inRange]; nofun
  | execute a b c d e f g =>
    cases idle : Phase.actsAsIdle s.phase with
    | true => rw [exec_execute_of_idle a b c d e f g s idle]; nofun
    | false => rw [exec_execute_of_busy a b c d e f g s idle]; nofun
  | _ => nofun

/-- The two operations that can be refused, and why. -/
theorem exec_refused_cases (i : Instr) (s : State) (r : Refusal) (refused : exec i s = .refused r) :
    (r = .crcOperandRange ∧ ¬ i.WellFormed) ∨
    (r = .executeWhileBusy ∧ Phase.actsAsIdle s.phase = false ∧ ∃ a b c d e f g, i = .execute a b c d e f g) := by
  cases i with
  | crc16 bytes offset count =>
    by_cases inRange : offset + count ≤ bytes.length
    · rw [exec_crc16_of_le s bytes offset count inRange] at refused; cases refused
    · rw [exec_crc16_of_not_le s bytes offset count inRange] at refused
      cases refused
      exact .inl ⟨rfl, by simpa [Instr.wellFormed] using inRange⟩
  | execute a b c d e f g =>
    cases idle : Phase.actsAsIdle s.phase with
    | true => rw [exec_execute_of_idle a b c d e f g s idle] at refused; cases refused
    | false =>
      rw [exec_execute_of_busy a b c d e f g s idle] at refused
      cases refused
      exact .inr ⟨rfl, rfl, a, b, c, d, e, f, g, rfl⟩
  | _ => cases refused

/-- R130: what a `PHASE` code selects always answers a next state. -/
theorem exec_decodePhase_completes (p : BitVec 4) (s : State) : ∃ t, exec (decodePhase p) s = .next t := by
  rcases decodePhase_cases p with ⟨-, e | e⟩ | ⟨-, e⟩ | ⟨-, e⟩ | ⟨-, e⟩ | ⟨-, e⟩ | ⟨-, e⟩ | ⟨-, e⟩ | ⟨-, e⟩ | ⟨-, e⟩ |
    ⟨-, e⟩ <;> exact ⟨_, by rw [e]; rfl⟩

/-! ### The obligations -/

/-- Settles O4: the step answers what an operation does, a refusal, or a move of the environment. -/
theorem stepNeverFaults : Obligations.StepNeverFaults := by
  intro s f
  unfold step
  split
  · split
    · exact exec_ne_fault _ _ _
    · nofun
  · nofun

/-- Settles O5: a word that decodes is the encoding of a well-formed operation, so what is refused is an EXECUTE. -/
theorem refusalsAreTheCallersFault : Obligations.RefusalsAreTheCallersFault := by
  intro s r h
  cases fetched : s.fetch with
  | none => rw [step_of_fetch_none s fetched] at h; cases h
  | some w =>
    cases decoded : decode w with
    | error why =>
      simp only [step, fetched, decoded] at h
      cases h
      cases w with
      | phase code => cases decoded
      | external o => exact .inr ⟨why, o, rfl, rfl, decoded⟩
    | ok i =>
      rw [step_of_fetch s w i fetched decoded] at h
      obtain ⟨wellFormed, rfl⟩ := decode_roundTrip w i decoded
      rcases exec_refused_cases i s.takeMove r h with ⟨-, ill⟩ | ⟨rfl, busy, a, b, c, d, e, f, g, rfl⟩
      · exact absurd wellFormed ill
      · rw [State.takeMove_phase, actsAsIdle_eq_false_iff] at busy
        exact .inl ⟨rfl, busy.1, busy.2, a, b, c, d, e, f, g, rfl⟩

/-- Settles O6: the condition is that the code in `PHASE` is fetched, and what it selects completes. -/
theorem everySequencerTurnCompletes : Obligations.EverySequencerTurnCompletes := by
  intro s rest next accepted
  have idleCodes : ∀ p : BitVec 4, p = Phase.idle ∨ 0xA ≤ p.toNat → Phase.actsAsIdle p = true := by decide
  rw [step_of_turn s rest next (accepted.imp_right (idleCodes s.phase))]
  exact exec_decodePhase_completes _ _

/-- Settles O1: an issued operation is fetched from its move. -/
theorem stepRunsTheDecodedInstruction : Obligations.StepRunsTheDecodedInstruction := by
  refine ⟨step_of_fetch, fun s w i rest next decoded => ?_⟩
  rw [step_of_fetch s _ i (fetch_of_operation s w rest next) decoded, takeMove_cons s _ rest next]

/-- Settles O2: the turn fetches the code in `PHASE`, or in a busy phase the EXECUTE on the port. -/
theorem sequencerTurnRunsThePhaseCode : Obligations.SequencerTurnRunsThePhaseCode := by
  intro s rest next
  refine ⟨fun unpresented => step_of_turn s rest next (.inl unpresented), fun idle => ?_, fun p presented notIdle code => ?_⟩
  · rw [step_of_turn s rest next (.inr (by rw [idle]; rfl)), idle]
    rfl
  · have busyCodes : ∀ p : BitVec 4, p ≠ Phase.idle → p.toNat ≤ 9 → Phase.actsAsIdle p = false := by decide
    have busy := busyCodes s.phase notIdle code
    have fetched : s.fetch = some (.external ⟨.execute, p.toList⟩) :=
      (fetch_of_turn s rest next).trans (congrArg some (fetchTurn_eq_execute s p presented busy))
    rw [step_of_fetch s _ _ fetched (decode_execute p)]
    exact exec_execute_of_busy _ _ _ _ _ _ _ _ (by simpa using busy)

/-- Settles O3: a move of the environment is not fetched, and each is one update of what the block observes. -/
theorem environmentMovesTouchNoRegister : Obligations.EnvironmentMovesTouchNoRegister := by
  intro s rest
  have moved : ∀ m, s.agenda = m :: rest → s.fetch = none →
      step s = .next (environmentMove m { s with agenda := rest }) := by
    intro m next fetched
    rw [step_of_fetch_none s fetched, nextMove_cons s m rest next, takeMove_cons s m rest next]
  have notFetched : ∀ m, s.agenda = m :: rest → m ≠ .turn → (∀ w, m ≠ .operation w) → s.fetch = none := by
    intro m next notTurn notOperation
    unfold State.fetch
    rw [nextMove_cons s m rest next]
    split <;> simp_all
  refine ⟨fun bytes next => ?_, fun ticks next => ?_, fun mask next => ?_, fun b bs next flying pending => ?_,
    fun next landed => ?_⟩ <;>
    rw [moved _ next (notFetched _ next nofun nofun)]
  · rfl
  · rfl
  · rfl
  · simp [environmentMove, State.txShift, flying, pending]
  · simp [environmentMove, State.txShift, landed]

/-- Settles O28: at `IDLE` both accept the payload, and the port is cleared in both. -/
theorem executeIsAcceptedOnlyAtIdle : Obligations.ExecuteIsAcceptedOnlyAtIdle := by
  intro a b c d e f g s
  refine ⟨fun idle => ?_, fun low high => ?_⟩
  · have accepted := exec_execute_of_idle a b c d e f g s (by rw [idle]; rfl)
    refine ⟨?_, _, accepted, rfl⟩
    rw [accepted, exec_start, execStart_of_hostExec { s with hostExec := some _ } _ rfl]
    rfl
  · exact exec_execute_of_busy a b c d e f g s ((actsAsIdle_eq_false_iff s.phase).mpr ⟨low, high⟩)

/-- Settles O29: an unused code has the meaning of START. -/
theorem unusedCodesActAsIdle : Obligations.UnusedCodesActAsIdle :=
  fun _ _ => ⟨rfl, _, rfl⟩

end Sys2Proof.Machine
end

section
/-! The checksum as a function: bit equations, bijection, detection of one changed byte, affinity, and CRC-16/X-25
(40_crc.md R90 to R92): O11, O13, O14, O15, O16. -/

namespace Sys2Proof.Machine

open Sys2Proof.Config (CrcMix3)

/-! ### The byte step bit by bit -/

theorem crcFold_getLsbD (n : Byte) (i : Nat) (hi : i < 8) :
    (crcFold n).getLsbD i = if i < 4 then n.getLsbD i else (n.getLsbD i ^^ n.getLsbD (i - 4)) := by
  have less : i - 4 < 8 := by omega
  by_cases low : i < 4 <;> simp [crcFold, low, hi, BitVec.getLsbD_eq_getElem less]

theorem crcHigh_getLsbD (f : Byte) (i : Nat) : (crcHigh f).getLsbD i = (f.getLsbD i ^^ f.getLsbD (5 + i)) := by
  simp [crcHigh]

theorem crcLow_shr3_getLsbD (h f : Byte) (i : Nat) :
    (crcLow .shr3 h f).getLsbD i = (h.getLsbD i ^^ f.getLsbD (3 + i) ^^ f.getLsbD (4 + i)) := by
  simp [crcLow, crcT3]

theorem crcLow_shl3_getLsbD (h f : Byte) (i : Nat) (hi : i < 8) :
    (crcLow .shl3 h f).getLsbD i =
      (h.getLsbD i ^^ (if i < 3 then false else f.getLsbD (i - 3)) ^^ f.getLsbD (4 + i)) := by
  have less : i - 3 < 8 := by omega
  by_cases low : i < 3 <;> simp [crcLow, crcT3, low, hi, BitVec.getLsbD_eq_getElem less]

/-- Settles O11: R82 to R85 bit by bit; the bits from 8 on are 0. -/
theorem checksumBitEquations : Obligations.ChecksumBitEquations := by
  intro mix acc b N h F H L
  have fold : ∀ i, (crcFold (b ^^^ acc.lo)).getLsbD i = if i < 8 then F i else false := by
    intro i
    split
    · exact crcFold_getLsbD _ i ‹_›
    · exact BitVec.getLsbD_of_ge _ i (by omega)
  have high : ∀ i, H i = ((crcFold (b ^^^ acc.lo)).getLsbD i ^^ (crcFold (b ^^^ acc.lo)).getLsbD (5 + i)) :=
    fun i => crcHigh_getLsbD _ i
  simp only [fold] at high
  refine ⟨by simp [high], ?_, ?_⟩
  · rintro rfl
    have low : ∀ i, L i = (h i ^^ (crcFold (b ^^^ acc.lo)).getLsbD (3 + i) ^^
      (crcFold (b ^^^ acc.lo)).getLsbD (4 + i)) := fun i => crcLow_shr3_getLsbD _ _ i
    simp only [fold] at low
    simp [low]
  · rintro rfl
    have low : ∀ i < 8, L i = (h i ^^ (if i < 3 then false else (crcFold (b ^^^ acc.lo)).getLsbD (i - 3)) ^^
      (crcFold (b ^^^ acc.lo)).getLsbD (4 + i)) := fun i hi => crcLow_shl3_getLsbD _ _ i hi
    simp only [fold] at low
    simp [low]

/-! ### The byte step run backwards -/

/-- R91 (d): the accumulators after a byte step give back the old high accumulator and the mixed-in byte. -/
theorem crcUnstep_crcByte (mix : CrcMix3) (acc : CrcAcc) (b : Byte) :
    crcUnstep mix (crcByte mix acc b) = (acc.hi, b ^^^ acc.lo) := by
  simp [crcUnstep, crcByte, crcLow, crcMixIn, BitVec.xor_assoc]

/-- R91 (d): the accumulators before a byte step, from those after it and the byte. -/
def crcByteInv (mix : CrcMix3) (b : Byte) (acc : CrcAcc) : CrcAcc :=
  ⟨b ^^^ (crcUnstep mix acc).2, (crcUnstep mix acc).1⟩

theorem crcByteInv_crcByte (mix : CrcMix3) (b : Byte) (acc : CrcAcc) :
    crcByteInv mix b (crcByte mix acc b) = acc := by
  simp [crcByteInv, crcUnstep_crcByte]

theorem crcByte_crcByteInv (mix : CrcMix3) (b : Byte) (acc : CrcAcc) :
    crcByte mix (crcByteInv mix b acc) b = acc := by
  simp [crcByteInv, crcByte, crcUnstep, crcMixIn, crcLow, BitVec.xor_assoc]

/-- Settles O13: the byte step has a two-sided inverse. -/
theorem byteStepIsBijective : Obligations.ByteStepIsBijective := fun mix b =>
  Function.bijective_iff_has_inverse.mpr
    ⟨crcByteInv mix b, crcByteInv_crcByte mix b, crcByte_crcByteInv mix b⟩

/-- With the accumulators fixed, different bytes lead to different accumulators. -/
theorem crcByte_injective_byte (mix : CrcMix3) (acc : CrcAcc) : Function.Injective (crcByte mix acc) := by
  intro b b' e
  have mixed := congrArg (fun a => (crcUnstep mix a).2) e
  simpa [crcUnstep_crcByte] using mixed

/-- Equal bytes keep different accumulators different. -/
theorem crcFold_injective (mix : CrcMix3) (bytes : List Byte) :
    Function.Injective (fun acc => bytes.foldl (crcByte mix) acc) := by
  induction bytes with
  | nil => exact Function.injective_id
  | cons b bs ih => exact ih.comp (byteStepIsBijective mix b).injective

/-- R91 (d): one changed byte at any place changes the accumulators. -/
theorem crcRun_ne_of_one_byte (mix : CrcMix3) (pre post : List Byte) (b b' : Byte) (changed : b ≠ b') :
    crcRun mix (pre ++ b :: post) ≠ crcRun mix (pre ++ b' :: post) := by
  simp only [crcRun, List.foldl_append, List.foldl_cons]
  exact (crcFold_injective mix post).ne ((crcByte_injective_byte mix _).ne changed)

/-- Settles O14: the result word keeps what the byte steps kept apart. -/
theorem oneByteChangeIsDetected : Obligations.OneByteChangeIsDetected := by
  intro mix pre post b b' changed
  rw [crc16_whole, crc16_whole]
  exact crcWord_injective.ne (crcRun_ne_of_one_byte mix pre post b b' changed)

/-! ### Affinity over GF(2) -/

/-- Exclusive-or of both accumulators. -/
def CrcAcc.xor (a b : CrcAcc) : CrcAcc := ⟨a.lo ^^^ b.lo, a.hi ^^^ b.hi⟩

/-- R91 (c): the byte step is linear in the accumulators and the byte together. -/
theorem crcByte_xor (mix : CrcMix3) (a a' : CrcAcc) (b b' : Byte) :
    crcByte mix (a.xor a') (b ^^^ b') = (crcByte mix a b).xor (crcByte mix a' b') := by
  have mixed : crcMixIn (b ^^^ b') (a.xor a').lo = crcMixIn b a.lo ^^^ crcMixIn b' a'.lo := by
    simp only [crcMixIn, CrcAcc.xor]; ac_rfl
  simp only [crcByte, mixed, crcFold_xor, crcHigh_xor, crcLow, crcT3_xor, BitVec.ushiftRight_xor_distrib]
  simp only [CrcAcc.xor, CrcAcc.mk.injEq, and_true]
  ac_rfl

theorem foldl_crcByte_xor (mix : CrcMix3) (xs ys : List Byte) (a a' : CrcAcc) (same : xs.length = ys.length) :
    (List.zipWith (· ^^^ ·) xs ys).foldl (crcByte mix) (a.xor a') =
      (xs.foldl (crcByte mix) a).xor (ys.foldl (crcByte mix) a') := by
  induction xs generalizing ys a a' with
  | nil => cases ys with
    | nil => rfl
    | cons => cases same
  | cons x xs ih => cases ys with
    | nil => cases same
    | cons y ys =>
      simp only [List.zipWith_cons_cons, List.foldl_cons]
      rw [crcByte_xor, ih ys _ _ (Nat.succ.inj same)]

/-- A sequence against itself leaves zero bytes. -/
theorem zipWith_xor_self (xs : List Byte) :
    List.zipWith (· ^^^ ·) xs xs = List.replicate xs.length (0x00 : Byte) := by
  simp

/-- R91 (c): three runs whose bytes cancel leave the run over zero bytes. -/
theorem crcRun_affine (mix : CrcMix3) (xs ys : List Byte) (same : xs.length = ys.length) :
    ((crcRun mix xs).xor (crcRun mix ys)).xor (crcRun mix (List.zipWith (· ^^^ ·) xs ys)) =
      crcRun mix (List.replicate xs.length 0x00) := by
  have seeds : (crcSeed.xor crcSeed).xor crcSeed = crcSeed := by decide
  have lengths : (List.zipWith (· ^^^ ·) xs ys).length = xs.length := by simp [same]
  simp only [crcRun]
  rw [← foldl_crcByte_xor mix xs ys _ _ same, ← foldl_crcByte_xor mix _ _ _ _ rfl, seeds, zipWith_xor_self, lengths]

/-- Packing spreads over exclusive-or. -/
theorem packWord_xor (h l h' l' : Byte) : packWord h l ^^^ packWord h' l' = packWord (h ^^^ h') (l ^^^ l') := by
  have high : crcHiByte (packWord h l ^^^ packWord h' l') = h ^^^ h' := by
    rw [crcHiByte, BitVec.ushiftRight_xor_distrib, BitVec.setWidth_xor]
    exact congrArg₂ _ (crcHiByte_packWord h l) (crcHiByte_packWord h' l')
  have low : crcLoByte (packWord h l ^^^ packWord h' l') = l ^^^ l' := by
    rw [crcLoByte, BitVec.setWidth_xor]
    exact congrArg₂ _ (crcLoByte_packWord h l) (crcLoByte_packWord h' l')
  rw [← high, ← low, packWord_bytes]

/-- Three complements cancel to one, so the result word is affine too. -/
theorem crcWord_xor (a b c : CrcAcc) : crcWord a ^^^ crcWord b ^^^ crcWord c = crcWord ((a.xor b).xor c) := by
  have complements : ∀ x y z : Byte, ~~~x ^^^ ~~~y ^^^ ~~~z = ~~~(x ^^^ y ^^^ z) := by
    intro x y z; ext i; simp
  simp [crcWord, packWord_xor, complements, CrcAcc.xor]

/-- Settles O15: the runs are affine and the result word keeps it. -/
theorem checksumIsAffine : Obligations.ChecksumIsAffine := by
  intro mix xs ys same
  have zipped := crc16_whole mix (List.zipWith (· ^^^ ·) xs ys)
  have other := crc16_whole mix ys
  have zero := crc16_whole mix (List.replicate xs.length 0x00)
  simp only [List.length_zipWith, ← same, Nat.min_self, List.length_replicate] at zipped other zero
  rw [crc16_whole, other, zipped, zero, crcWord_xor, crcRun_affine mix xs ys same]

/-! ### CRC-16/X-25 -/

open Sys2Proof.Safety (x25 x25Bit x25Bits x25Byte)

/-- The bit division is linear over GF(2). -/
theorem x25Bit_xor (r r' : Word16) : x25Bit (r ^^^ r') = x25Bit r ^^^ x25Bit r' := by
  have cancel : ∀ a b p : Word16, a ^^^ b = (a ^^^ p) ^^^ (b ^^^ p) := by
    intro a b p
    rw [show (a ^^^ p) ^^^ (b ^^^ p) = (a ^^^ b) ^^^ (p ^^^ p) by ac_rfl, BitVec.xor_self, BitVec.xor_zero]
  simp only [x25Bit, BitVec.getLsbD_xor, BitVec.ushiftRight_xor_distrib]
  cases r.getLsbD 0 <;> cases r'.getLsbD 0 <;> simp only [Bool.xor_false, Bool.xor_true, Bool.not_true, Bool.not_false,
    if_true, if_false, Bool.false_eq_true]
  · ac_rfl
  · ac_rfl
  · exact cancel _ _ _

theorem x25Bits_xor (n : Nat) (r r' : Word16) : x25Bits n (r ^^^ r') = x25Bits n r ^^^ x25Bits n r' := by
  induction n generalizing r r' with
  | zero => rfl
  | succ n ih => rw [x25Bits, x25Bit_xor, ih, ← x25Bits, ← x25Bits]

/-- Eight bits of division move a high byte down unchanged. -/
theorem x25Bits_high (h : Byte) : x25Bits 8 (packWord h 0x00) = packWord 0x00 h := by
  revert h; decide +kernel

/-- Eight bits of division of a low byte are R83, R84 and R85 with `SHL3`. -/
theorem x25Bits_low (n : Byte) :
    x25Bits 8 (packWord 0x00 n) = packWord (crcHigh (crcFold n)) (crcLow .shl3 0x00 (crcFold n)) := by
  revert n; decide +kernel

/-- The register of the division: the high accumulator above the low one. -/
def CrcAcc.word (acc : CrcAcc) : Word16 := packWord acc.hi acc.lo

/-- One byte of the division is one byte step. -/
theorem x25Byte_word (acc : CrcAcc) (b : Byte) : x25Byte acc.word b = (crcByte .shl3 acc b).word := by
  have byteWord : b.setWidth 16 = packWord 0x00 b := by simp [packWord]
  have mixed : acc.word ^^^ packWord 0x00 b = packWord acc.hi 0x00 ^^^ packWord 0x00 (crcMixIn b acc.lo) := by
    simp [CrcAcc.word, packWord_xor, crcMixIn, BitVec.xor_comm]
  have combined : ∀ h l : Byte, packWord 0x00 acc.hi ^^^ packWord h l = packWord h (acc.hi ^^^ l) := by
    intro h l
    simp [packWord_xor]
  rw [x25Byte, byteWord, mixed, x25Bits_xor, x25Bits_high, x25Bits_low, combined]
  simp [CrcAcc.word, crcByte, crcLow, BitVec.xor_assoc]

theorem foldl_x25Byte_word (bytes : List Byte) (acc : CrcAcc) :
    bytes.foldl x25Byte acc.word = (bytes.foldl (crcByte .shl3) acc).word := by
  induction bytes generalizing acc with
  | nil => rfl
  | cons b bs ih => rw [List.foldl_cons, List.foldl_cons, x25Byte_word, ih]

/-- The final exclusive-or is the complement of R87. -/
theorem crcWord_eq_word_xor (acc : CrcAcc) : crcWord acc = acc.word ^^^ 0xFFFF := by
  have ones : (0xFFFF : Word16) = packWord 0xFF 0xFF := by decide
  have complement : ∀ x : Byte, x ^^^ 0xFF = ~~~x := fun x => BitVec.xor_allOnes
  rw [ones, CrcAcc.word, packWord_xor, complement, complement, crcWord]

/-- Settles O16: the seed is the initial value, each byte step eight bits of division, and the complement the final
exclusive-or. -/
theorem leftShiftVariantIsX25 : Obligations.LeftShiftVariantIsX25 := by
  intro bytes
  have seed : (0xFFFF : Word16) = crcSeed.word := by decide
  rw [crc16_whole, crcWord_eq_word_xor, crcRun, ← foldl_x25Byte_word, ← seed, x25]

end Sys2Proof.Machine
end

section
/-! The codec operations and the frames (40_crc.md R80; 41_frame_codec.md R100 to R102): O17, O20, O21, O22, O23, O24,
O25, O26, O27. -/

namespace Sys2Proof.Machine

open Sys2Proof.Config (CrcMix3)

/-! ### The checksum unit -/

/-- R87: the accumulators an evaluation leaves are the complements of its result's bytes. -/
theorem crcUnit_eq (s : State) (bytes : List Byte) (c : Word16) (result : c = crcWord (crcRun s.params.crcMix3 bytes)) :
    s.crcUnit bytes = { s with bccLo := ~~~crcLoByte c, bccHi := ~~~crcHiByte c } := by
  simp [State.crcUnit, result]

/-- R101: the verdict as a comparison of values. -/
theorem validateFrame_eq_decide (mix : CrcMix3) (rep : RepFrame) :
    validateFrame mix rep =
      decide (rep[7].toNat * 256 + rep[6].toNat = (crc16 mix (replyPayload rep) 0 6).toNat) := by
  rw [Bool.eq_iff_iff, decide_eq_true_iff, replyPayload_eq]
  exact (receivedChecksumWord mix rep).2

/-- R101: the two checksum bytes that validate a payload are those of its checksum. -/
theorem validateFrame_iff_bytes (mix : CrcMix3) (rep : RepFrame) :
    validateFrame mix rep = true ↔
      rep[6] = crcLoByte (crc16 mix (replyPayload rep) 0 6) ∧
        rep[7] = crcHiByte (crc16 mix (replyPayload rep) 0 6) := by
  rw [validateFrame_iff, receivedWord]
  constructor
  · intro e
    simp [← e]
  · rintro ⟨lo, hi⟩
    rw [lo, hi, packWord_bytes]

/-- R64: the payload of a reply is six bytes. -/
theorem length_replyPayload (rep : RepFrame) : (replyPayload rep).length = 6 := by simp [replyPayload]

/-! ### The operations -/

/-- Settles O17: within R80's requirement the unit runs over the covered bytes. -/
theorem crc16PresentsTheChecksum : Obligations.Crc16PresentsTheChecksum := by
  intro bytes offset count s c
  refine ⟨fun inRange => ?_, fun beyond => exec_crc16_of_not_le s bytes offset count (by omega)⟩
  rw [exec_crc16_of_le s bytes offset count inRange, crcUnit_eq s _ c rfl]

/-- Settles O20: the covered bytes of the frame are the eight operands. -/
theorem encodeBuildsTheRequestFrame : Obligations.EncodeBuildsTheRequestFrame := by
  intro t a b c d e f g s w
  rw [exec_encode, crcUnit_eq s _ w (crc16_coveredRequest _ t #v[a, b, c, d, e, f, g])]
  rfl

/-- Settles O21: the verdict is that of `validateFrame` on the eight operands. -/
theorem validateJudgesTheReply : Obligations.ValidateJudgesTheReply := by
  intro a b c d e f x y s w
  rw [exec_validate, crcUnit_eq s _ w (crc16_whole _ [a, b, c, d, e, f]), validateFrame_eq_decide]
  rfl

/-- Settles O25: both rows append their bytes. -/
theorem frameRowsReachTheReceiveQueue : Obligations.FrameRowsReachTheReceiveQueue :=
  ⟨fun _ _ _ _ _ _ _ _ _ _ _ => rfl, fun _ _ _ _ _ _ _ _ _ => rfl⟩

/-- Settles O26: SETTID is one register write. -/
theorem settidWritesTheTargetOnly : Obligations.SettidWritesTheTargetOnly := fun _ _ => rfl

/-- R132: everything the acceptance of an EXECUTE writes. -/
theorem acceptExecute_eq (s : State) (p : Payload) (c : Word16)
    (result : c = crc16 s.params.crcMix3 (coveredRequest s.targetId p) 0 8) :
    s.acceptExecute p = { s with
      sent := false, validated := false, rep := Vector.replicate 8 s.params.clearByte, rcount := 0
      req := #v[s.targetId, p[0], p[1], p[2], p[3], p[4], p[5], p[6], crcLoByte c, crcHiByte c]
      bccLo := ~~~crcLoByte c, bccHi := ~~~crcHiByte c, attempt := 0, busy := true, hostExec := none
      phase := if s.params.maxAttempts = 0 then Phase.done else Phase.drain } := by
  have unit : crcWord (crcRun s.params.crcMix3 (coveredRequest s.targetId p)) = c :=
    (result.trans (crc16_coveredRequest _ _ _)).symm
  have lo : (crcRun s.params.crcMix3 (coveredRequest s.targetId p)).lo = ~~~crcLoByte c := by simp [← unit]
  have hi : (crcRun s.params.crcMix3 (coveredRequest s.targetId p)).hi = ~~~crcHiByte c := by simp [← unit]
  have phase : (if 0 < s.params.maxAttempts then Phase.drain else Phase.done) =
      if s.params.maxAttempts = 0 then Phase.done else Phase.drain := by
    simp only [Nat.pos_iff_ne_zero, ite_not]
  unfold State.acceptExecute
  simp only [State.goto, State.clearRep, State.crcUnit, lo, hi, phase, result]
  rfl

/-- Settles O27: START is the acceptance of the EXECUTE on the port. -/
theorem startOpensTheTransaction : Obligations.StartOpensTheTransaction := by
  constructor
  · intro s absent
    simp [execStart, absent]
  · intro s p presented c
    rw [exec_start, execStart_of_hostExec s p presented, acceptExecute_eq s p c rfl]

/-! ### The frames -/

/-- Settles O22: the received word is the checksum exactly where its two bytes are. -/
theorem exactlyOneChecksumValidates : Obligations.ExactlyOneChecksumValidates :=
  fun mix a b c d e f x y => validateFrame_iff_bytes mix #v[a, b, c, d, e, f, x, y]

/-- R102 (d): one changed byte of a sequence changes its checksum. -/
theorem crc16_set_ne (mix : CrcMix3) (bytes : List Byte) (k : Nat) (hk : k < bytes.length) (b : Byte)
    (changed : b ≠ bytes[k]) : crc16 mix (bytes.set k b) 0 bytes.length ≠ crc16 mix bytes 0 bytes.length := by
  have parts := oneByteChangeIsDetected mix (bytes.take k) (bytes.drop (k + 1)) b bytes[k] changed
  rwa [← List.set_eq_take_cons_drop b hk, List.length_set, List.getElem_cons_drop, List.take_append_drop] at parts

/-- The payload of a reply with one byte changed. -/
theorem replyPayload_set (rep : RepFrame) (k : Nat) (hk : k < 8) (b : Byte) :
    replyPayload (rep.set k b) = (replyPayload rep).set k b := by
  rw [replyPayload, Vector.toList_set, List.take_set, replyPayload]

/-- Settles O23: a changed payload byte changes the checksum but not the received word, a changed checksum byte the
received word but not the checksum. -/
theorem tamperedReplyIsRejected : Obligations.TamperedReplyIsRejected := by
  intro mix rep k b valid changed
  obtain ⟨k, hk⟩ := k
  rw [Bool.eq_false_iff]
  intro tampered
  rw [validateFrame_iff_bytes] at valid tampered
  obtain ⟨lo, hi⟩ := valid
  obtain ⟨lo', hi'⟩ := tampered
  have length := length_replyPayload rep
  rcases Nat.lt_or_ge k 6 with payload | checksum
  · have differ := crc16_set_ne mix (replyPayload rep) k (by omega) b (by simpa [replyPayload] using changed)
    rw [length, ← replyPayload_set rep k hk b] at differ
    apply differ
    rw [← packWord_bytes (crc16 mix (replyPayload (rep.set k b)) 0 6),
      ← packWord_bytes (crc16 mix (replyPayload rep) 0 6), ← lo, ← hi, ← lo', ← hi']
    simp [show k ≠ 6 by omega, show k ≠ 7 by omega]
  · have same : replyPayload (rep.set k b) = replyPayload rep := by
      rw [replyPayload_set rep k hk b, List.set_eq_of_length_le (by omega)]
    rw [same] at lo' hi'
    rw [← lo] at lo'
    rw [← hi] at hi'
    obtain rfl | rfl : k = 6 ∨ k = 7 := by omega
    · exact changed (by simpa using lo')
    · exact changed (by simpa using hi')

/-- Settles O24: the checksum of six equal bytes never has that byte as both its halves, for any of the 256 bytes. -/
theorem constantFillNeverValidates : Obligations.ConstantFillNeverValidates := by
  intro mix c
  revert c
  cases mix <;> decide +kernel

end Sys2Proof.Machine
end

section
/-! The direction controller, one micro-operation at a time (42_direction_echo.md R110 to R120): O30, O31, O32, O34,
O37, O38. -/

namespace Sys2Proof.Machine

/-! ### DRAIN, SETTLE, FLUSH -/

/-- R111: a byte available is discarded. -/
theorem execDrain_of_cons (s : State) (b : Byte) (rest : List Byte) (available : s.rxq = b :: rest) :
    execDrain s = .next { s with rxq := rest } := by
  rw [execDrain, rxPop_cons s b rest available]

/-- R112: with an empty queue the line switches to transmit. -/
theorem execDrain_of_nil (s : State) (empty : s.rxq = []) :
    execDrain s = .next { s with dir := .transmit, t0 := s.now, phase := Phase.settle } := by
  rw [execDrain, rxPop_nil s empty]
  rfl

/-- R173: a timed condition is true from its bound on. -/
theorem expired_iff (s : State) (bound : Nat) : s.expired bound = true ↔ bound ≤ s.now - s.t0 := by
  simp [State.expired]

theorem execSettle_eq (s : State) :
    execSettle s = .next (if s.settleOver = true then { s with phase := Phase.write } else s) := rfl

theorem execFlush_of_txFlushed (s : State) (flushed : s.txFlushed = true) :
    execFlush s = .next { s with dir := .receive, t0 := s.now, echoCount := 0, phase := Phase.echo } :=
  congrArg Host.Outcome.next (if_pos flushed)

/-! ### ECHO -/

/-- R119: one of the two exit conditions of ECHO holds. -/
theorem echoOver_iff (s : State) :
    s.echoOver = true ↔ s.sentCount ≤ s.echoCount ∨ s.params.tEcho ≤ s.now - s.t0 := by
  simp [State.echoOver, expired_iff]

/-- R120: the full request frame was confirmed written. -/
theorem wroteFull_iff (s : State) : s.wroteFull = true ↔ s.sentCount = 10 := decide_eq_true_iff

/-- R119, R120: an exit of ECHO, by whether the whole frame was written. -/
theorem execEcho_of_echoOver (s : State) (ended : s.echoOver = true) :
    execEcho s =
      if s.sentCount = 10 then .next { s with sent := true, t0 := s.now, rcount := 0, phase := Phase.read }
      else .next { s with phase := Phase.retry } := by
  unfold execEcho
  rw [if_pos ended]
  by_cases full : s.sentCount = 10
  · rw [if_pos full, if_pos ((wroteFull_iff s).mpr full)]
    rfl
  · rw [if_neg full, if_neg (mt (wroteFull_iff s).mp full)]
    rfl

/-! ### What a write takes -/

/-- R47: where as many bytes are taken as were offered, they are the bytes offered. -/
theorem takenBytes_length_eq_iff (mask : BitVec 10) (bytes : List Byte) (i : Nat) :
    (takenBytes mask bytes i).length = bytes.length ↔ takenBytes mask bytes i = bytes :=
  ⟨(takenBytes_sublist mask bytes i).eq_of_length, congrArg List.length⟩

/-- R47, U6: the mask whose lowest `n` bits are set takes `n` of ten bytes. -/
theorem takenBytes_lowMask_length (bytes : List Byte) (ten : bytes.length = 10) (n : Nat) (le : n ≤ 10) :
    (takenBytes (BitVec.ofNat 10 (2 ^ n - 1)) bytes 0).length = n := by
  have zeros : ∀ n ≤ 10,
      (takenBytes (BitVec.ofNat 10 (2 ^ n - 1)) (List.replicate 10 (0x00 : Byte)) 0).length = n := by decide
  rw [takenBytes_length_congr _ bytes (List.replicate 10 0x00) 0 (by simp [ten])]
  exact zeros n le

/-! ### The obligations -/

/-- Settles O30: the two answers of the pop. -/
theorem drainDiscardsThenSwitches : Obligations.DrainDiscardsThenSwitches :=
  ⟨execDrain_of_cons, execDrain_of_nil⟩

/-- Settles O31: with `T0` not ahead of the clock, the bound on the difference is one on the clock. -/
theorem settleHoldsForItsDelay : Obligations.SettleHoldsForItsDelay := by
  intro s stamped
  have ended : s.settleOver = true ↔ s.t0 + s.params.tSettle ≤ s.now :=
    (expired_iff s s.params.tSettle).trans (by omega)
  rw [exec_settle, execSettle_eq]
  exact ⟨fun late => by rw [if_pos (ended.mpr late)], fun early => by rw [if_neg (mt ended.mp (by omega))]⟩

/-- Settles O34: the test of FLUSH is the transmitter's. -/
theorem flushReleasesTheLine : Obligations.FlushReleasesTheLine := execFlush_of_txFlushed

/-- Settles O37: the exits are tested before the queue. -/
theorem echoEndsByCountOrWindow : Obligations.EchoEndsByCountOrWindow := fun s ended =>
  execEcho_of_echoOver s ((echoOver_iff s).mpr ended)

/-- Settles O32: WRITE is one update; what is taken is a sublist of the frame, and a mask of `n` bits takes `n` bytes;
a count of 0 is no more than any echo count. -/
theorem writeHandsOverTheRequest : Obligations.WriteHandsOverTheRequest := by
  constructor
  · intro s taken
    have ten : s.req.toList.length = 10 := Vector.length_toList
    refine ⟨rfl, txCount_le s, ?_, fun n le => ⟨_, takenBytes_lowMask_length _ ten n le⟩⟩
    simpa only [ten] using takenBytes_length_eq_iff s.txMask s.req.toList 0
  · intro s zero
    rw [exec_echo, execEcho_of_echoOver s ((echoOver_iff s).mpr (.inl (by omega))), if_neg (by omega)]

/-! ### DRAIN and ECHO look at no byte's value -/

/-- Two queues of one length are both empty or both have a byte to pop, and as many behind it. -/
theorem queues_of_same_length (q q' : List Byte) (same : q'.length = q.length) :
    (q = [] ∧ q' = []) ∨ ∃ b rest b' rest', q = b :: rest ∧ q' = b' :: rest' ∧ rest'.length = rest.length := by
  cases q with
  | nil => exact .inl ⟨rfl, List.length_eq_zero_iff.mp same⟩
  | cons b rest => cases q' with
    | nil => cases same
    | cons b' rest' => exact .inr ⟨b, rest, b', rest', rfl, rfl, Nat.succ.inj same⟩

/-- R56: DRAIN does the same with another queue of the same length. -/
theorem execDrain_ignores_values (s : State) (q : List Byte) (same : q.length = s.rxq.length) :
    ∃ t t', execDrain s = .next t ∧ execDrain { s with rxq := q } = .next t' ∧
      t' = { t with rxq := t'.rxq } ∧ t'.rxq.length = t.rxq.length := by
  rcases queues_of_same_length s.rxq q same with ⟨queue, rfl⟩ | ⟨b, rest, b', rest', queue, rfl, behind⟩
  · exact ⟨_, _, execDrain_of_nil s queue, execDrain_of_nil { s with rxq := [] } rfl, rfl, same⟩
  · exact ⟨_, _, execDrain_of_cons s b rest queue, execDrain_of_cons { s with rxq := b' :: rest' } b' rest' rfl, rfl,
      behind⟩

/-- R56: so does ECHO, whose exit conditions do not look at the queue. -/
theorem execEcho_ignores_values (s : State) (q : List Byte) (same : q.length = s.rxq.length) :
    ∃ t t', execEcho s = .next t ∧ execEcho { s with rxq := q } = .next t' ∧
      t' = { t with rxq := t'.rxq } ∧ t'.rxq.length = t.rxq.length := by
  have exits : ({ s with rxq := q } : State).echoOver = s.echoOver := rfl
  cases ended : s.echoOver with
  | true =>
    rw [execEcho_of_echoOver s ended, execEcho_of_echoOver _ (exits.trans ended)]
    by_cases full : s.sentCount = 10
    · simp only [if_pos full]
      exact ⟨_, _, rfl, rfl, rfl, same⟩
    · simp only [if_neg full]
      exact ⟨_, _, rfl, rfl, rfl, same⟩
  | false =>
    have ended' := exits.trans ended
    rcases queues_of_same_length s.rxq q same with ⟨queue, rfl⟩ | ⟨b, rest, b', rest', queue, rfl, behind⟩
    · exact ⟨_, _, execEcho_of_nil s ended queue, execEcho_of_nil _ ended' rfl, rfl, same⟩
    · exact ⟨_, _, execEcho_of_cons s b rest ended queue, execEcho_of_cons _ b' rest' ended' rfl, rfl, behind⟩

/-- Settles O38: both look only at whether the queue is empty. -/
theorem drainAndEchoIgnoreByteValues : Obligations.DrainAndEchoIgnoreByteValues := fun s q same =>
  ⟨execDrain_ignores_values s q same, execEcho_ignores_values s q same⟩

end Sys2Proof.Machine
end

section
/-! The sequencer, one micro-operation at a time, and what the host reads (43_sequencer.md R142 to R146; 10_state.md
R28): O41, O42, O43, O46, O47. -/

namespace Sys2Proof.Machine

open Sys2Proof.Safety (Inv)

/-! ### READ and CHECK -/

/-- R142: one of the two exit conditions of READ holds. -/
theorem readOver_iff (s : State) : s.readOver = true ↔ s.rcount = 8 ∨ s.params.tReply ≤ s.now - s.t0 := by
  simp [State.readOver, expired_iff]

theorem execRead_of_readOver (s : State) (ended : s.readOver = true) :
    execRead s = .next { s with phase := Phase.check } :=
  congrArg Host.Outcome.next (if_pos ended)

/-- R143: short of eight bytes the checksum is not looked at. -/
theorem execCheck_of_short (s : State) (short : s.rcount ≠ 8) :
    execCheck s = .next { s with phase := Phase.retry } :=
  congrArg Host.Outcome.next (if_neg short)

/-- R143: with eight bytes the checksum unit runs over the payload and its verdict selects the way on. -/
theorem execCheck_of_verdict (s : State) (c : Word16) (result : c = crc16 s.params.crcMix3 (replyPayload s.rep) 0 6)
    (full : s.rcount = 8) :
    execCheck s = .next (if validateFrame s.params.crcMix3 s.rep = true
      then { s with validated := true, bccLo := ~~~crcLoByte c, bccHi := ~~~crcHiByte c, phase := Phase.done }
      else { s with bccLo := ~~~crcLoByte c, bccHi := ~~~crcHiByte c, phase := Phase.retry }) := by
  have unit : c = crcWord (crcRun s.params.crcMix3 (replyPayload s.rep)) := by
    rw [result, ← crc16_whole, length_replyPayload]
  rw [execCheck_of_full s full, crcUnit_eq s _ c unit]
  rfl

/-! ### The obligations -/

/-- Settles O41: the exits are tested before the queue. -/
theorem readEndsByCountOrDeadline : Obligations.ReadEndsByCountOrDeadline := fun s ended =>
  execRead_of_readOver s ((readOver_iff s).mpr ended)

/-- Settles O42: the verdict is the comparison of the received word with the checksum of the payload. -/
theorem checkJudgesLengthThenChecksum : Obligations.CheckJudgesLengthThenChecksum := by
  intro s c
  have payload : c = crc16 s.params.crcMix3 (replyPayload s.rep) 0 6 := (crc16_take _ s.rep.toList 6).symm
  refine ⟨execCheck_of_short s, fun full equal => ?_, fun full differ => ?_⟩
  · rw [exec_check, execCheck_of_verdict s c payload full, validateFrame_eq_decide, ← payload,
      if_pos (decide_eq_true equal)]
  · rw [exec_check, execCheck_of_verdict s c payload full, validateFrame_eq_decide, ← payload,
      if_neg (by simpa using differ)]

/-- Settles O43: RETRY is one update, with the budget tested after the count. -/
theorem retryCountsAndClears : Obligations.RetryCountsAndClears := fun _ => rfl

/-- Settles O46: the outcome is read off the flags, with the payload behind `VALIDATED`. -/
theorem outcomeHidesWhatDidNotValidate : Obligations.OutcomeHidesWhatDidNotValidate := by
  intro s
  cases busy : s.busy with
  | true =>
    have hidden : s.outcome = none := by simp [State.outcome, busy]
    exact ⟨fun _ => hidden, nofun, fun o read => absurd (hidden.symm.trans read) nofun,
      fun _ o read => absurd (hidden.symm.trans read) nofun⟩
  | false =>
    have read : s.outcome = some ⟨s.sent, s.validated, if s.validated then some (replyPayload s.rep) else none⟩ := by
      simp [State.outcome, busy]
    refine ⟨nofun, fun _ => ⟨_, read⟩, fun o found => ?_, fun legal o found valid => ?_⟩ <;>
      obtain rfl := Option.some.inj (read.symm.trans found)
    · exact ⟨rfl, rfl, by cases s.validated <;> simp⟩
    · exact legal.validatedSent valid

/-- Settles O47: the fields of the reset state. -/
theorem resetValues : Obligations.ResetValues :=
  ⟨rfl, rfl, rfl, rfl, rfl, rfl, rfl, rfl, rfl, repClear_of_replicate rfl⟩

end Sys2Proof.Machine
end

section
/-! What changes a register, over every step of every agent: O44, O48, O52, O53, O54, O55, O56,
O57. -/

namespace Sys2Proof.Machine

open Sys2Proof.Safety (Inv successors)

/-! ### What a turn leaves -/

/-- R10, R18, R26 and 10_state.md section 5: no micro-operation writes the request frame, the target identity or a
parameter, and none moves the clock. -/
theorem Turn.frame {s t : State} (turn : Turn s t) :
    t.req = s.req ∧ t.targetId = s.targetId ∧ t.params = s.params ∧ t.now = s.now := by
  cases turn <;> exact ⟨rfl, rfl, rfl, rfl⟩

/-- R15: `SENT` is only ever set by a micro-operation. -/
theorem Turn.sent {s t : State} (turn : Turn s t) (sent : s.sent = true) : t.sent = true := by
  cases turn with
  | echoFull => rfl
  | _ => exact sent

/-- R112: only the turn of DRAIN that finds the queue empty switches the line to transmit. -/
theorem Turn.drain_of_transmit {s t : State} (turn : Turn s t) (before : s.dir = .receive) (after : t.dir = .transmit) :
    s.phase = Phase.drain ∧ s.rxq = [] ∧ t.phase = Phase.settle ∧ t.t0 = s.now := by
  cases turn with
  | drainEmpty phase queue => exact ⟨phase, queue, rfl, rfl⟩
  | flushDone => cases after
  | _ => exact absurd (before.symm.trans after) nofun

/-- R116: only the turn of FLUSH that sees the transmitter flushed switches the line to receive. -/
theorem Turn.flush_of_receive {s t : State} (turn : Turn s t) (before : s.dir = .transmit) (after : t.dir = .receive) :
    s.phase = Phase.flush ∧ s.txFlushed = true ∧ t.phase = Phase.echo ∧ t.t0 = s.now := by
  cases turn with
  | flushDone phase flushed => exact ⟨phase, flushed, rfl, rfl⟩
  | drainEmpty => cases after
  | _ => exact absurd (before.symm.trans after) nofun

/-- R130: at `IDLE` a turn that accepts nothing changes nothing. -/
theorem Turn.eq_of_idle {s t : State} (turn : Turn s t) (idle : s.phase = Phase.idle) : t = s := by
  cases turn with
  | idle | settleHold | flushWait | echoWait | readWait => rfl
  | _ phase => exact absurd (idle.symm.trans phase) (by decide)

/-- R130: where the turn of each phase may lead. -/
theorem Turn.successor {s t : State} (turn : Turn s t) : t.phase ∈ successors s.phase := by
  have idleStays : ∀ p, Phase.actsAsIdle p = true → p ∈ successors p := by decide
  cases turn with
  | idle phase => exact idleStays _ phase
  | _ phase => simp +decide [phase]

/-- R132: where the acceptance of an EXECUTE leads. -/
theorem acceptExecute_successor (s : State) (p : Payload) (acts : Phase.actsAsIdle s.phase = true) :
    (s.acceptExecute p).phase ∈ successors s.phase := by
  have opens : ∀ p, Phase.actsAsIdle p = true → Phase.drain ∈ successors p ∧ Phase.done ∈ successors p := by decide
  rcases acceptExecute_phase_cases s p with ⟨-, phase⟩ | ⟨-, phase⟩ <;> rw [phase]
  · exact (opens _ acts).1
  · exact (opens _ acts).2

/-- The acceptance of an EXECUTE leaves `IDLE`. -/
theorem acceptExecute_phase_ne_idle (s : State) (p : Payload) : (s.acceptExecute p).phase ≠ Phase.idle := by
  rcases acceptExecute_phase_cases s p with ⟨-, phase⟩ | ⟨-, phase⟩ <;> rw [phase] <;> decide

/-- R146: what the host reads is read off four registers. -/
theorem Quiet.outcome {s t : State} (q : Quiet s t) : t.outcome = s.outcome := by
  simp [State.outcome, q.busy, q.sent, q.validated, q.rep]

/-- A step that begins and ends at `IDLE` is quiet. -/
theorem quiet_of_step_idle {s t : State} (h : step s = .next t) (before : s.phase = Phase.idle)
    (after : t.phase = Phase.idle) : Quiet s t := by
  rcases step_cases s t h with ⟨q, -⟩ | ⟨p, -, rfl⟩ | ⟨-, turn⟩
  · exact q
  · exact absurd after (acceptExecute_phase_ne_idle _ p)
  · rw [turn.eq_of_idle (by simpa using before)]
    exact quiet_takeMove s

/-- R13, R17: no EXECUTE is accepted in a legal state that is busy. -/
theorem not_actsAsIdle_of_busy {s : State} (h : Inv s) (busy : s.busy = true) : Phase.actsAsIdle s.phase ≠ true :=
  fun acts => h.busyIff.mp busy (idle_of_actsAsIdle h acts)

/-! ### The obligations -/

/-- Settles O44: DONE is one update by `VALIDATED`, a legal DONE is clear without a valid reply, and what begins and
ends at `IDLE` is quiet. -/
theorem doneEndsTheTransaction : Obligations.DoneEndsTheTransaction := by
  refine ⟨fun s failed => ?_, fun s valid => ?_, fun s legal phase => ?_, startOpensTheTransaction.1,
    fun s t before h after => ?_⟩
  · simp [execDone, failed, State.clearRep, State.goto]
  · simp [execDone, valid, State.goto]
  · exact ⟨(listening_of_inv legal phase).dir, legal.failedClear (.inl phase)⟩
  · have q := quiet_of_step_idle h before after
    exact ⟨q.sent, q.validated, q.busy, q.rep, q.attempt, q.sentCount, q.echoCount, q.rcount, q.outcome⟩

/-- Settles O48: at `IDLE` the flags change only in the acceptance of an EXECUTE, which clears them. -/
theorem flagsStayClearUntilTheFirstStart : Obligations.FlagsStayClearUntilTheFirstStart := by
  refine ⟨⟨rfl, rfl⟩, fun s t idle sent validated h => ?_⟩
  rcases step_cases s t h with ⟨q, -⟩ | ⟨p, -, rfl⟩ | ⟨-, turn⟩
  · exact ⟨q.sent.trans sent, q.validated.trans validated⟩
  · exact ⟨rfl, rfl⟩
  · rw [turn.eq_of_idle (by simpa using idle)]
    simp [sent, validated]

/-- Settles O52: what is no turn leaves `PHASE`, and the turns and the acceptance follow the table. -/
theorem phaseFollowsItsSuccessors : Obligations.PhaseFollowsItsSuccessors := by
  intro s t h
  rcases step_cases s t h with ⟨q, other, -⟩ | ⟨p, acts, rfl⟩ | ⟨fetched, turn⟩
  · exact ⟨fun fetched => absurd fetched (other _), fun changed => absurd q.phase changed⟩
  · have listed : (s.takeMove.acceptExecute p).phase ∈ successors s.phase := by
      simpa using acceptExecute_successor s.takeMove p (by simpa using acts)
    exact ⟨fun _ => listed, fun _ => ⟨listed, .inr ⟨acts, rfl⟩⟩⟩
  · have listed : t.phase ∈ successors s.phase := by simpa using turn.successor
    exact ⟨fun _ => listed, fun _ => ⟨listed, .inl fetched⟩⟩

/-- Settles O53: only the acceptance of an EXECUTE writes the frame, and none is accepted while busy. -/
theorem requestIsFixedWhileBusy : Obligations.RequestIsFixedWhileBusy := by
  intro s t legal busy h
  rcases step_cases s t h with ⟨q, -⟩ | ⟨p, acts, rfl⟩ | ⟨-, turn⟩
  · exact q.req
  · exact absurd acts (not_actsAsIdle_of_busy legal busy)
  · exact turn.frame.1.trans (State.takeMove_req s)

/-- Settles O54: the acceptance and the turns leave the target identity, and of the rest only SETTID writes it. -/
theorem onlySettidChangesTheTarget : Obligations.OnlySettidChangesTheTarget := by
  intro s t h
  rcases step_cases s t h with ⟨-, -, target⟩ | ⟨p, -, rfl⟩ | ⟨-, turn⟩
  · exact target
  · exact .inl (State.takeMove_targetId s)
  · obtain ⟨-, target, -, -⟩ := turn.frame
    exact .inl (target.trans (State.takeMove_targetId s))

/-- Settles O55: what is no turn leaves the line, and of the turns two switch it. -/
theorem lineSwitchesOnlyInDrainAndFlush : Obligations.LineSwitchesOnlyInDrainAndFlush := by
  intro s t h
  rcases step_cases s t h with ⟨q, -⟩ | ⟨p, -, rfl⟩ | ⟨fetched, turn⟩
  · exact ⟨fun before after => absurd (before.symm.trans (q.dir.symm.trans after)) nofun,
      fun before after => absurd (before.symm.trans (q.dir.symm.trans after)) nofun⟩
  · have kept : (s.takeMove.acceptExecute p).dir = s.dir := State.takeMove_dir s
    exact ⟨fun before after => absurd (before.symm.trans (kept.symm.trans after)) nofun,
      fun before after => absurd (before.symm.trans (kept.symm.trans after)) nofun⟩
  · constructor
    · intro before after
      obtain ⟨phase, queue, next, stamp⟩ := turn.drain_of_transmit (by simpa using before) after
      simp only [State.takeMove_phase, State.takeMove_rxq, State.takeMove_now] at phase queue stamp
      exact ⟨phase ▸ fetched, queue, next, stamp⟩
    · intro before after
      obtain ⟨phase, flushed, next, stamp⟩ := turn.flush_of_receive (by simpa using before) after
      simp only [State.takeMove_phase, State.takeMove_txFlushed, State.takeMove_now] at phase flushed stamp
      exact ⟨phase ▸ fetched, flushed, next, stamp⟩

/-- Settles O56: only the acceptance of an EXECUTE clears `SENT`, in a legal state at `IDLE`. -/
theorem sentIsStickyWithinATransaction : Obligations.SentIsStickyWithinATransaction := by
  intro s t legal h before after
  rcases step_cases s t h with ⟨q, -⟩ | ⟨p, acts, rfl⟩ | ⟨-, turn⟩
  · exact absurd (before.symm.trans (q.sent.symm.trans after)) nofun
  · exact ⟨idle_of_actsAsIdle legal acts, rfl, rfl⟩
  · exact absurd ((turn.sent (by simpa using before)).symm.trans after) nofun

/-- Settles O57: the turns and the acceptance leave both, and what is no turn may move the clock forwards. -/
theorem clockIsMonotoneAndParametersAreConstant : Obligations.ClockIsMonotoneAndParametersAreConstant := by
  intro s t h
  rcases step_cases s t h with ⟨q, -⟩ | ⟨p, -, rfl⟩ | ⟨-, turn⟩
  · exact ⟨q.now, q.params⟩
  · exact ⟨(State.takeMove_now s).ge, State.takeMove_params s⟩
  · obtain ⟨-, -, params, now⟩ := turn.frame
    exact ⟨(now.trans (State.takeMove_now s)).ge, params.trans (State.takeMove_params s)⟩

end Sys2Proof.Machine
end

section
/-! The error classes and where they lead (60_exceptions.md R160 to R169): O58. -/

namespace Sys2Proof.Machine

open Sys2Proof.Safety (endsAttempt)

/-! ### Following the named classes -/

/-- R168, R169: the next phase `p` is the one the error classes named in `s` lead to. -/
def FollowsErrorClasses (s : State) (p : BitVec 4) : Prop :=
  (p = Phase.retry ↔ ∃ e ∈ s.errorClasses, endsAttempt e = true) ∧
  (s.errorClasses.filter endsAttempt).length ≤ 1 ∧
  (∀ c, .echoOverrun c ∈ s.errorClasses → p = if s.sentCount = 10 then Phase.read else Phase.retry) ∧
  (.attemptsExhausted ∈ s.errorClasses ↔ s.phase = Phase.retry ∧ p = Phase.done)

/-- Where no class is named, the turn goes neither to RETRY nor from it to the end. -/
theorem followsErrorClasses_of_nil {s : State} {p : BitVec 4} (unnamed : s.errorClasses = []) (notRetry : p ≠ Phase.retry)
    (notEnd : s.phase = Phase.retry → p ≠ Phase.done) : FollowsErrorClasses s p := by
  simpa [FollowsErrorClasses, unnamed, notRetry] using notEnd

/-- Where one class that ends the attempt is named, and that not at RETRY, the turn goes to RETRY. -/
theorem followsErrorClasses_of_single {s : State} {e : ErrorClass} (one : s.errorClasses = [e])
    (ends : endsAttempt e = true) (notRetry : s.phase ≠ Phase.retry) : FollowsErrorClasses s Phase.retry := by
  have notOverrun : ∀ c, ErrorClass.echoOverrun c ≠ e := by rintro c rfl; cases ends
  have notExhausted : ErrorClass.attemptsExhausted ≠ e := by rintro rfl; cases ends
  simp [FollowsErrorClasses, one, ends, notOverrun, notExhausted, notRetry]

/-- R160: outside ECHO, CHECK and RETRY no class is named. -/
theorem followsErrorClasses_of_other {s : State} {p : BitVec 4}
    (other : s.phase ∉ [Phase.echo, Phase.check, Phase.retry]) (notRetry : p ≠ Phase.retry) :
    FollowsErrorClasses s p := by
  simp only [List.mem_cons, List.not_mem_nil, or_false, not_or] at other
  obtain ⟨notEcho, notCheck, elsewhere⟩ := other
  have unnamed : s.errorClasses = [] := by simp [State.errorClasses, notEcho, notCheck, elsewhere]
  exact followsErrorClasses_of_nil unnamed notRetry fun phase => absurd phase elsewhere

/-! ### Which classes are named -/

/-- R161, R162: at an exit of ECHO, E2 where the echo is short, and E1 where the write was. -/
theorem errorClasses_of_echoOver {s : State} (phase : s.phase = Phase.echo) (ended : s.echoOver = true) :
    s.errorClasses = (if s.echoCount < s.sentCount then [.echoOverrun s.echoCount] else []) ++
      (if s.wroteFull then [] else [.writeShort s.sentCount]) := by
  simp only [State.errorClasses, if_pos phase, if_pos ended]

theorem errorClasses_of_not_echoOver {s : State} (phase : s.phase = Phase.echo) (staying : s.echoOver = false) :
    s.errorClasses = [] := by
  simp [State.errorClasses, phase, staying]

/-- R163, R164: at CHECK, E3 short of eight bytes, E4 where they do not validate. -/
theorem errorClasses_of_check {s : State} (phase : s.phase = Phase.check) :
    s.errorClasses =
      if s.rcount = 8 then (if s.replyGood then [] else [.replyMalformed]) else [.replyTimeout s.rcount] := by
  have notEcho : s.phase ≠ Phase.echo := by rw [phase]; decide
  simp only [State.errorClasses, if_neg notEcho, if_pos phase]

/-- R165: at RETRY, E5 where the budget is spent. -/
theorem errorClasses_of_retry {s : State} (phase : s.phase = Phase.retry) :
    s.errorClasses = if s.attempt + 1 < s.params.maxAttempts then [] else [.attemptsExhausted] := by
  have notEcho : s.phase ≠ Phase.echo := by rw [phase]; decide
  have notCheck : s.phase ≠ Phase.check := by rw [phase]; decide
  simp only [State.errorClasses, if_neg notEcho, if_neg notCheck, if_pos phase]

/-- Taking a move off names no other class. -/
@[simp] theorem errorClasses_takeMove (s : State) : s.takeMove.errorClasses = s.errorClasses := by
  unfold State.takeMove
  split <;> rfl

/-! ### Every turn follows them -/

/-- R119, R120: at an exit of ECHO, E1 alone decides between READ and RETRY, whether E2 stands beside it or not. -/
theorem followsErrorClasses_of_echoOver {s : State} (phase : s.phase = Phase.echo) (ended : s.echoOver = true) :
    FollowsErrorClasses s (if s.sentCount = 10 then Phase.read else Phase.retry) := by
  have notRetry : s.phase ≠ Phase.retry := by rw [phase]; decide
  have readNotRetry : Phase.read ≠ Phase.retry := by decide
  have classes := errorClasses_of_echoOver phase ended
  by_cases full : s.sentCount = 10
  · rw [if_pos ((wroteFull_iff s).mpr full), List.append_nil] at classes
    rw [if_pos full]
    by_cases short : s.echoCount < s.sentCount
    · rw [if_pos short] at classes
      simp [FollowsErrorClasses, classes, endsAttempt, full, notRetry, readNotRetry]
    · rw [if_neg short] at classes
      exact followsErrorClasses_of_nil classes readNotRetry fun e => absurd e notRetry
  · rw [if_neg (mt (wroteFull_iff s).mp full)] at classes
    rw [if_neg full]
    by_cases short : s.echoCount < s.sentCount
    · rw [if_pos short] at classes
      simp [FollowsErrorClasses, classes, endsAttempt, full, notRetry, List.filter_cons]
    · rw [if_neg short] at classes
      exact followsErrorClasses_of_single classes rfl notRetry

/-- R144, R165: RETRY names E5 exactly where it ends the transaction. -/
theorem followsErrorClasses_of_retry {s : State} (phase : s.phase = Phase.retry) :
    FollowsErrorClasses s (if s.attempt + 1 < s.params.maxAttempts then Phase.drain else Phase.done) := by
  have classes := errorClasses_of_retry phase
  by_cases budget : s.attempt + 1 < s.params.maxAttempts
  · rw [if_pos budget] at classes ⊢
    exact followsErrorClasses_of_nil classes (by decide) fun _ => by decide
  · rw [if_neg budget] at classes ⊢
    have doneNotRetry : Phase.done ≠ Phase.retry := by decide
    simp [FollowsErrorClasses, classes, endsAttempt, phase, doneNotRetry]

/-- Every turn goes where the classes it names lead. -/
theorem Turn.followsErrorClasses {s t : State} (turn : Turn s t) : FollowsErrorClasses s t.phase := by
  cases turn with
  | idle acts =>
    have codes : ∀ p, Phase.actsAsIdle p = true → p ∉ [Phase.echo, Phase.check, Phase.retry] ∧ p ≠ Phase.retry := by
      decide
    exact followsErrorClasses_of_other (codes _ acts).1 (codes _ acts).2
  | echoFull phase ended full =>
    simpa [if_pos ((wroteFull_iff s).mp full)] using followsErrorClasses_of_echoOver phase ended
  | echoShort phase ended short =>
    have notTen : s.sentCount ≠ 10 := fun ten => absurd (short.symm.trans ((wroteFull_iff s).mpr ten)) nofun
    simpa [if_neg notTen] using followsErrorClasses_of_echoOver phase ended
  | echoPop phase staying | echoWait phase staying =>
    exact followsErrorClasses_of_nil (errorClasses_of_not_echoOver phase staying)
      (by simp +decide [phase]) fun e => absurd (phase.symm.trans e) (by decide)
  | checkGood phase good full =>
    exact followsErrorClasses_of_nil (by rw [errorClasses_of_check phase, if_pos full, if_pos good])
      (by simp +decide) fun e => absurd (phase.symm.trans e) (by decide)
  | checkMalformed phase bad full =>
    have one : s.errorClasses = [.replyMalformed] := by
      rw [errorClasses_of_check phase, if_pos full, if_neg (by simp [bad])]
    exact followsErrorClasses_of_single one rfl (by rw [phase]; decide)
  | checkTimeout phase _ short =>
    have one : s.errorClasses = [.replyTimeout s.rcount] := by rw [errorClasses_of_check phase, if_neg short]
    exact followsErrorClasses_of_single one rfl (by rw [phase]; decide)
  | retryAgain phase budget => simpa [if_pos budget] using followsErrorClasses_of_retry phase
  | retryEnd phase spent => simpa [if_neg spent.not_gt] using followsErrorClasses_of_retry phase
  | _ phase => exact followsErrorClasses_of_other (by rw [phase]; decide) (by simp +decide [phase])

/-- Settles O58: a turn names its classes in the state it starts in, and an acceptance names none. -/
theorem failurePathFollowsTheErrorClasses : Obligations.FailurePathFollowsTheErrorClasses := by
  intro s t _ fetched h
  rcases step_cases s t h with ⟨-, other, -⟩ | ⟨p, acts, rfl⟩ | ⟨-, turn⟩
  · exact absurd fetched (other _)
  · have codes : ∀ p, Phase.actsAsIdle p = true → p ∉ [Phase.echo, Phase.check, Phase.retry] := by decide
    refine followsErrorClasses_of_other (codes _ acts) ?_
    rcases acceptExecute_phase_cases s.takeMove p with ⟨-, phase⟩ | ⟨-, phase⟩ <;> rw [phase] <;> decide
  · simpa [FollowsErrorClasses] using turn.followsErrorClasses

end Sys2Proof.Machine
end

section
/-! Whole transactions, over every run of every agent (43_sequencer.md R148, R149, R151): O59, O60. -/

namespace Sys2Proof.Machine

open Sys2Proof.Safety (Inv run AllAlong txWrites readBytes)

/-! ### Runs, step by step -/

theorem run_succ_iff (n : Nat) (s t : State) :
    run (n + 1) s = some t ↔ ∃ u, step s = .next u ∧ run n u = some t := by
  cases next : step s <;> simp [run, next]

/-- A run along `Q` makes its first step from a state in `Q`, and the rest of it is a run along `Q`. -/
theorem run_along_succ {Q : State → Prop} {n : Nat} {s t : State} (along : AllAlong Q (n + 1) s)
    (ran : run (n + 1) s = some t) : Q s ∧ ∃ u, step s = .next u ∧ AllAlong Q n u ∧ run n u = some t := by
  obtain ⟨first, u, next, rest⟩ := along
  obtain ⟨u', next', ran⟩ := (run_succ_iff n s t).mp ran
  obtain rfl : u = u' := Host.Outcome.next.inj (next.symm.trans next')
  exact ⟨first, u, next, rest, ran⟩

theorem AllAlong.first {Q : State → Prop} {n : Nat} {s : State} (along : AllAlong Q n s) : Q s := by
  cases n with
  | zero => exact along
  | succ n => exact along.1

/-- What every step from a state in `Q` to one in `Q` keeps, every run along `Q` keeps. -/
theorem run_keeps {P Q : State → Prop} (keeps : ∀ s t, P s → Q s → Q t → step s = .next t → P t) (n : Nat) (s t : State)
    (start : P s) (along : AllAlong Q n s) (ran : run n s = some t) : P t := by
  induction n generalizing s with
  | zero => cases ran; exact start
  | succ n ih =>
    obtain ⟨here, u, next, along, ran⟩ := run_along_succ along ran
    exact ih u (keeps s u start here (AllAlong.first along) next) along ran

/-- A run along `Q` ends in `Q`. -/
theorem run_along_last {Q : State → Prop} (n : Nat) (s t : State) (along : AllAlong Q n s) (ran : run n s = some t) :
    Q t :=
  run_keeps (fun _ _ _ _ after _ => after) n s t (AllAlong.first along) along ran

theorem run_keeps_inv {Q : State → Prop} (n : Nat) (s t : State) (legal : Inv s) (along : AllAlong Q n s)
    (ran : run n s = some t) : Inv t :=
  run_keeps (fun u v h _ _ next => stepKeepsTheInvariant u v h next) n s t legal along ran

theorem txWrites_succ (n : Nat) (s t : State) (next : step s = .next t) :
    txWrites (n + 1) s = (if s.fetch = some (.phase Phase.write) then 1 else 0) + txWrites n t := by
  simp [txWrites, next]

/-- The byte that the step from `s` pops at READ, where it pops one. -/
def poppedByRead (s : State) : List Byte :=
  if s.fetch = some (.phase Phase.read) ∧ s.readOver = false then s.rxq.head?.toList else []

theorem readBytes_succ (n : Nat) (s t : State) (next : step s = .next t) :
    readBytes (n + 1) s = poppedByRead s ++ readBytes n t := by
  simp [readBytes, poppedByRead, next]

/-! ### The budget of attempts -/

/-- Whether the request of the attempt numbered `ATTEMPT` is handed over: from WRITE to the step that counts the attempt
as failed, and at DONE where it did not fail. -/
def attemptWritten (s : State) : Bool :=
  decide (s.phase ∈ [Phase.flush, Phase.echo, Phase.read, Phase.check, Phase.retry]) ||
    (decide (s.phase = Phase.done) && s.validated)

/-- How many requests the transaction has handed over: one for each failed attempt, and that of the running one. -/
def requestsWritten (s : State) : Nat := s.attempt + (attemptWritten s).toNat

/-- R148: at DONE without a valid reply the budget is spent, with one it is not. -/
def EndsInBudget (s : State) : Prop :=
  s.phase = Phase.done →
    (s.validated = false → s.attempt = s.params.maxAttempts) ∧ (s.validated = true → s.attempt < s.params.maxAttempts)

theorem Quiet.requestsWritten {s t : State} (q : Quiet s t) : requestsWritten t = requestsWritten s := by
  simp [Machine.requestsWritten, attemptWritten, q.phase, q.validated, q.attempt]

theorem Quiet.endsInBudget {s t : State} (q : Quiet s t) (ends : EndsInBudget s) : EndsInBudget t := by
  simpa only [EndsInBudget, q.phase, q.validated, q.attempt, q.params] using ends

/-- A turn hands over one request at WRITE and none elsewhere, as long as the transaction runs. -/
theorem Turn.requestsWritten {s t : State} (turn : Turn s t) (legal : Inv s) (busy : t.busy = true) :
    requestsWritten t = requestsWritten s + if s.phase = Phase.write then 1 else 0 := by
  cases turn with
  | idle acts => exact absurd acts (not_actsAsIdle_of_busy legal busy)
  | doneValid | doneFailed => cases busy
  | checkGood phase => simp +decide [Machine.requestsWritten, attemptWritten, phase]
  | retryEnd phase =>
    simp +decide [Machine.requestsWritten, attemptWritten, phase, (attempting_of_inv legal phase).validated]
  | _ phase => simp +decide [Machine.requestsWritten, attemptWritten, phase]

/-- The two turns that lead to DONE: a good reply within the budget, and the failure that spends it. -/
theorem Turn.endsInBudget {s t : State} (turn : Turn s t) (legal : Inv s) (ends : EndsInBudget s) :
    EndsInBudget t := by
  cases turn with
  | idle | settleHold | flushWait | echoWait | readWait => exact ends
  | checkGood phase => exact fun _ => ⟨nofun, fun _ => (attempting_of_inv legal phase).attempt⟩
  | retryEnd phase spent =>
    have a := attempting_of_inv legal phase
    exact fun _ => ⟨fun _ => le_antisymm a.attempt spent, fun valid => absurd (a.validated.symm.trans valid) nofun⟩
  | _ phase => exact fun done => absurd done (by simp +decide [phase])

/-- One step of a running transaction. -/
theorem requestsWritten_of_step {s t : State} (legal : Inv s) (before : s.busy = true) (after : t.busy = true)
    (next : step s = .next t) :
    requestsWritten t = requestsWritten s + if s.fetch = some (.phase Phase.write) then 1 else 0 := by
  rcases step_cases s t next with ⟨q, other, -⟩ | ⟨p, acts, -⟩ | ⟨fetched, turn⟩
  · rw [q.requestsWritten, if_neg (other _), Nat.add_zero]
  · exact absurd acts (not_actsAsIdle_of_busy legal before)
  · rw [turn.requestsWritten (inv_of_quiet legal (quiet_takeMove s)) after, (quiet_takeMove s).requestsWritten, fetched]
    simp

theorem endsInBudget_of_step {s t : State} (legal : Inv s) (ends : EndsInBudget s) (busy : s.busy = true)
    (next : step s = .next t) : EndsInBudget t := by
  have q := quiet_takeMove s
  rcases step_cases s t next with ⟨q, -⟩ | ⟨p, acts, -⟩ | ⟨-, turn⟩
  · exact q.endsInBudget ends
  · exact absurd acts (not_actsAsIdle_of_busy legal busy)
  · exact turn.endsInBudget (inv_of_quiet legal q) (q.endsInBudget ends)

/-- R149: the calls of `TxWrite` along a running transaction are the requests it hands over. -/
theorem requestsWritten_of_run (n : Nat) (s t : State) (legal : Inv s) (along : AllAlong (fun u => u.busy = true) n s)
    (ran : run n s = some t) : requestsWritten t = requestsWritten s + txWrites n s := by
  induction n generalizing s with
  | zero => cases ran; rfl
  | succ n ih =>
    obtain ⟨busy, u, next, along, ran⟩ := run_along_succ along ran
    rw [txWrites_succ n s u next, ih u (stepKeepsTheInvariant s u legal next) along ran,
      requestsWritten_of_step legal busy (AllAlong.first along) next, Nat.add_assoc]

/-- R148: a legal state never has more requests handed over than the budget allows. -/
theorem requestsWritten_le (s : State) (legal : Inv s) (ends : EndsInBudget s) :
    requestsWritten s ≤ s.params.maxAttempts := by
  cases written : attemptWritten s with
  | false => simpa [requestsWritten, written] using legal.attemptLe
  | true =>
    have phases : ∀ p ∈ [Phase.flush, Phase.echo, Phase.read, Phase.check, Phase.retry],
        Phase.inAttempt p = true := by decide
    have within : s.attempt < s.params.maxAttempts := by
      simp only [attemptWritten, Bool.or_eq_true, Bool.and_eq_true, decide_eq_true_eq] at written
      rcases written with runs | ⟨done, valid⟩
      · exact legal.attemptRuns (phases _ runs)
      · exact (ends done).2 valid
    simpa [requestsWritten, written] using within

/-- Settles O59: along the run the requests handed over are counted by the attempts, which the budget bounds. -/
theorem attemptBudgetIsRespected : Obligations.AttemptBudgetIsRespected := by
  intro n s t legal drain first along ran
  have start : EndsInBudget s := fun done => absurd (drain.symm.trans done) (by decide)
  have keeps : ∀ u v : State, (Inv u ∧ EndsInBudget u ∧ u.params = s.params) → u.busy = true → v.busy = true →
      step u = .next v → (Inv v ∧ EndsInBudget v ∧ v.params = s.params) := by
    rintro u v ⟨h, e, same⟩ busy - next
    exact ⟨stepKeepsTheInvariant u v h next, endsInBudget_of_step h e busy next,
      (clockIsMonotoneAndParametersAreConstant u v next).2.trans same⟩
  obtain ⟨legal', ends, params⟩ := run_keeps keeps n s t ⟨legal, start, rfl⟩ along ran
  have zero : requestsWritten s = 0 := by simp +decide [requestsWritten, attemptWritten, drain, first]
  have count : requestsWritten t = txWrites n s := by
    rw [requestsWritten_of_run n s t legal along ran, zero, Nat.zero_add]
  rw [← count, ← params]
  refine ⟨requestsWritten_le t legal' ends, fun done failed => ?_, fun done valid => ?_⟩
  · simpa +decide [requestsWritten, attemptWritten, done, failed] using (ends done).1 failed
  · simp +decide [requestsWritten, attemptWritten, done, valid]

/-! ### The reply of one attempt -/

/-- R22: the bytes of `REP` that are counted as received. -/
def stored (s : State) : List Byte := s.rep.toList.take s.rcount

theorem length_stored {s : State} (legal : Inv s) : (stored s).length = s.rcount := by
  simpa [stored] using legal.rcountLe

/-- R140: the stored byte follows those stored before. -/
theorem stored_storeRep (s : State) (b : Byte) (room : s.rcount < 8) : stored (s.storeRep b) = stored s ++ [b] := by
  have length : s.rcount < s.rep.toList.length := by simpa using room
  have kept : (s.rep.toList.set s.rcount b).take s.rcount = s.rep.toList.take s.rcount := by
    rw [List.take_set, List.set_eq_of_length_le (by simp)]
  rw [storeRep_of_lt s b room, stored, Vector.toList_set, List.take_add_one, kept, List.getElem?_set_self length]
  rfl

/-- A turn of READ that stays there stores what it pops. -/
theorem Turn.stored {s t : State} (turn : Turn s t) (legal : Inv s) (before : s.phase = Phase.read)
    (after : t.phase = Phase.read) :
    stored t = stored s ++ if s.readOver = false then s.rxq.head?.toList else [] := by
  cases turn with
  | readStore phase staying b rest queue =>
    have room : s.rcount < 8 := lt_of_le_of_ne legal.rcountLe ((readOver_eq_false_iff s).mp staying).1
    rw [stored_storeRep { s with rxq := rest } b room, if_pos staying, queue]
    rfl
  | readWait phase staying queue => simp [queue]
  | readOver => cases after
  | idle acts => rw [before] at acts; cases acts
  | _ phase => exact absurd (before.symm.trans phase) (by decide)

/-- One step of READ that stays there. -/
theorem stored_of_step {s t : State} (legal : Inv s) (before : s.phase = Phase.read) (after : t.phase = Phase.read)
    (next : step s = .next t) : stored t = stored s ++ poppedByRead s := by
  rcases step_cases s t next with ⟨q, other, -⟩ | ⟨p, acts, -⟩ | ⟨fetched, turn⟩
  · rw [poppedByRead, if_neg fun h => other _ h.1, List.append_nil, stored, stored, q.rep, q.rcount]
  · rw [before] at acts
    cases acts
  · have legal' := inv_of_quiet legal (quiet_takeMove s)
    have step := turn.stored legal' (by simpa using before) after
    simpa [stored, poppedByRead, fetched, before, State.readOver, State.expired] using step

/-- Along a run of READ the bytes popped are stored one behind the other. -/
theorem stored_of_run (n : Nat) (s t : State) (legal : Inv s) (along : AllAlong (fun u => u.phase = Phase.read) n s)
    (ran : run n s = some t) : stored t = stored s ++ readBytes n s := by
  induction n generalizing s with
  | zero => cases ran; simp [readBytes]
  | succ n ih =>
    obtain ⟨reading, u, next, along, ran⟩ := run_along_succ along ran
    rw [readBytes_succ n s u next, ih u (stepKeepsTheInvariant s u legal next) along ran,
      stored_of_step legal reading (AllAlong.first along) next, List.append_assoc]

/-- Settles O60: with nothing stored at first, what is stored is what was popped, and the rest is clear in every legal
state of READ. -/
theorem replyBufferHoldsOnlyWhatThisAttemptRead : Obligations.ReplyBufferHoldsOnlyWhatThisAttemptRead := by
  intro n s t legal _ nothing along ran
  have legal' : Inv t := run_keeps_inv n s t legal along ran
  have start : stored s = [] := by simp [stored, nothing]
  have all : stored t = readBytes n s := by rw [stored_of_run n s t legal along ran, start, List.nil_append]
  refine ⟨all, ?_, legal'.tailClear (.inr (run_along_last n s t along ran))⟩
  rw [← all, length_stored legal']

end Sys2Proof.Machine
end
